-- ==== Sys2Proof/Word.lean ====
section
/-! DEFINITION. The widths the block moves (20_memory.md R67: 3 address bits, 4-bit nibbles, 8-bit bytes; 30_encoding.md
R97: 16-bit operation words; R93: 16-bit payload fields) and the plainest arithmetic on them. -/

namespace Sys2Proof

/-- `u8` of 00_scope.md R11. -/
abbrev Byte := BitVec 8

/-- `u4` of 00_scope.md R11: one data-line access (20_memory.md R67). -/
abbrev Nibble := BitVec 4

/-- `u3`: the value of the address lines A2..A0 (10_state.md R23). -/
abbrev BusAddress := BitVec 3

/-- An operation word, or a frame header, or a receiver key (30_encoding.md R97, R84, R95). -/
abbrev OpWord := BitVec 16

/-- `s16`/`u16`: a field of a JointPosition (30_encoding.md R93). -/
abbrev Half := BitVec 16

/-- `Fin 6`: an axis number, which is also its bus address (00_scope.md R8, 20_memory.md R61). -/
abbrev Axis := Fin 6

/-- Bits 15:8 of an operation word. -/
def highByte (w : OpWord) : Byte := w.extractLsb' 8 8

/-- Bits 7:0 of an operation word. -/
def lowByte (w : OpWord) : Byte := w.extractLsb' 0 8

/-- The 16-bit concatenation `hi, lo` with `hi` most significant (00_scope.md R11). -/
def joinBytes (hi lo : Byte) : OpWord := (hi.setWidth 16 <<< 8) ||| lo.setWidth 16

end Sys2Proof
end

