-- ==== Sys2Proof/Machine/Types.lean ====
section
/-! DEFINITION. The names the spec gives: receiver states (10_state.md R29), events (R40), frame types (30_encoding.md R85),
verdicts of VALIDATE (44_frame_codec.md R194, R195), discard causes (60_exceptions.md R271), results of operations
(10_state.md R43), the devices of the bus (20_memory.md R61) and the open parameters (00_scope.md R9). -/

namespace Sys2Proof

/-- The receive state machine's states, in the order of 10_state.md R29. -/
inductive RxState where
  | sentinel
  | typeByte
  | lengthByte
  | opCodeByte
  | dataBytes
  | checksumBytes
deriving DecidableEq, Repr

/-- Cause codes of the receiver (60_exceptions.md R271, D31): visible to a model, never to the hardware's environment. -/
inductive RxCause where
  /-- A byte other than 0xAA in state Sentinel; not a discard (45_receiver.md R231). -/
  | staySentinel
  /-- A byte other than 0x01 or 0x02 in state TypeByte (R232). -/
  | badType
  /-- A byte outside 1..27 in state LengthByte (R233). -/
  | badLength
  /-- The received checksum differs from CHECKSUM of the region (R236). -/
  | badChecksum
deriving DecidableEq, Repr

/-- The two Port A nibbles, that is the two port slots (20_memory.md R61, R65). -/
inductive PortNibble where
  /-- Bus address 6, bits 3:0. -/
  | lo
  /-- Bus address 7, bits 7:4. -/
  | hi
deriving DecidableEq, Repr

/-- The eight devices of the bus (20_memory.md R61, 60_exceptions.md R283). -/
inductive Device where
  | axis (i : Axis)
  | portA (k : PortNibble)
deriving DecidableEq, Repr

/-- The four input lines DI0..DI3 after the threshold, one boolean a line (30_encoding.md R83). -/
structure InputLines where
  di0 : Bool
  di1 : Bool
  di2 : Bool
  di3 : Bool
deriving DecidableEq, Repr

/-- The event trace's constructors (10_state.md R40). -/
inductive Event where
  /-- The address lines were driven to `a`. -/
  | sel (a : BusAddress)
  /-- The output data lines were driven to `v` by WRITE_OUTPUT_NIBBLE. -/
  | out (v : Nibble)
  /-- nIOW went low and high again, with address lines `a` and output lines `v`. -/
  | pulseW (a : BusAddress) (v : Nibble)
  /-- nIOR went low and high again, with address lines `a`. -/
  | pulseR (a : BusAddress)
  /-- The input lines were sampled and read as `v` while `a` was selected. -/
  | sample (a : BusAddress) (v : Nibble)
  /-- The actuator disable call. -/
  | axDisable (i : Axis)
  /-- The actuator enable call. -/
  | axEnable (i : Axis)
  /-- The actuator service call: it returned `r` and left the output lines at `v`. -/
  | axService (i : Axis) (r : Bool) (v : Nibble)
  /-- The handler was called. -/
  | dispatch (op len : Byte) (payload : List Byte)
deriving DecidableEq, Repr

/-- The Type field (30_encoding.md R85). -/
inductive FrameType where
  | request
  | response
deriving DecidableEq, Repr

/-- What DECODE returns of a valid frame (44_frame_codec.md R197). `len` is the Length field (90_conflicts.md C11). -/
structure Decoded where
  type    : FrameType
  op      : Byte
  len     : Byte
  status  : Option Byte
  payload : List Byte
deriving DecidableEq, Repr

/-- VALIDATE's result: `ok`, or the first check that failed (44_frame_codec.md R194, R195). The source's bool is
"the verdict is `ok`". -/
inductive Verdict where
  | ok
  | lenRange
  | lenMismatch
  | sentinel
  | type
  | checksum
deriving DecidableEq, Repr

/-- The value an operation returns to its caller (10_state.md R43). `none`: nothing has returned a value yet, or the
operation returns nothing. -/
inductive Result where
  | none
  | nibble (v : Nibble)
  | byte (b : Byte)
  | checksum (lo hi : Byte)
  | frame (bytes : List Byte)
  | verdict (v : Verdict)
  | decoded (d : Option Decoded)
deriving DecidableEq, Repr

/-- What a handler gets back from a call it makes (45_receiver.md R239): the operation's result, but of VALIDATE the bool alone,
so that a rejection's reason, "never visible on a pin or on the serial link" (44_frame_codec.md R195), cannot reach either
through what a handler sends or stores. -/
inductive Reply where
  | none
  | nibble (v : Nibble)
  | byte (b : Byte)
  | checksum (lo hi : Byte)
  | frame (bytes : List Byte)
  | accepted (yes : Bool)
  | decoded (d : Option Decoded)
deriving DecidableEq, Repr

/-- The status names of a response (30_encoding.md R89). Their byte values are the parameter STATUS_CODE (D24). -/
inductive StatusName where
  | ok
  | error
  | busy
  | timeOut
deriving DecidableEq, Repr

/-- The calls of the out-of-scope motion API a handler may make (00_scope.md R6, 45_receiver.md R239). -/
inductive MotionCall where
  | moveRelative
  | moveAbsolute
  | moveAtSpeed
  | getPosition
  | stopAll
  | enableAll
  | disableAll
  | zeroAll
deriving DecidableEq, Repr

/-- The boolean parameters of 00_scope.md R9 (D6, D19, D11). Held in State as data that no operation writes (log 9). -/
structure Params where
  /-- RESET_ZERO_GLOBALS: the Port A cache and `motorState` reset to zero. -/
  resetZeroGlobals : Bool
  /-- REENABLE_GATED: an axis re-enable is suppressed while the motors-enabled flag is clear. -/
  reenableGated : Bool
  /-- RESYNC_REEXAMINE: a byte that falls back to Sentinel is examined again as a possible sentinel. -/
  resyncReexamine : Bool
deriving DecidableEq, Repr

/-- The defaults of 00_scope.md R9. -/
def Params.default : Params := { resetZeroGlobals := true, reenableGated := false, resyncReexamine := false }

/-- The numbering of the receiver states in opcode_table.json's rx_state_byte rows. -/
def RxState.code : RxState → BitVec 3
  | .sentinel => 0
  | .typeByte => 1
  | .lengthByte => 2
  | .opCodeByte => 3
  | .dataBytes => 4
  | .checksumBytes => 5

/-- The bus address of a Port A nibble (00_scope.md R8: PORTA_LO_ADDR and PORTA_HI_ADDR). -/
def PortNibble.address : PortNibble → BusAddress
  | .lo => 6
  | .hi => 7

end Sys2Proof
end

