-- ==== Sys2Proof/Config.lean ====
section
/-! DEFINITION. What an implementation or the environment fixes and the spec leaves open: constants with NO BODY, so that
nothing can be proved of their values (00_scope.md R9, R13 `draw`; 93_implementation_defined.md U4 to U11). The boolean
parameters of R9 stand in `Params` instead, as data of State (log 9). -/

namespace Sys2Proof

/-- T_STROBE (00_scope.md R9, D32): the minimum hold of a strobe's low phase. No rule reads it (R10). -/
opaque Config.strobeHold : Nat

/-- THRESH (00_scope.md R9, D16): the comparison of a line level with the fixed midpoint. DESIGN CHOICE, log 25: free. -/
opaque Config.threshold (level : Nat) : Bool

/-- The level of input line DI`line` at the `n`-th draw: free (D16). DESIGN CHOICE, log 10. -/
opaque Config.lineLevel (n : Nat) (line : Fin 4) : Nat

/-- The boolean `service(i)` returns at the `n`-th draw: free (D18). DESIGN CHOICE, log 10. -/
opaque Config.serviceResult (i : Axis) (n : Nat) : Bool

/-- What `service(i)` leaves on the output lines at the `n`-th draw: free (D17). DESIGN CHOICE, log 10. -/
opaque Config.serviceLines (i : Axis) (n : Nat) : Nibble

/-- The answer of `motorsEnabled()` at the `n`-th draw: free (D19). DESIGN CHOICE, log 10. -/
opaque Config.motorsEnabled (n : Nat) : Bool

/-- STATUS_CODE (00_scope.md R9, D24): the byte of a status name. Free, log 26. -/
opaque Config.statusCode (name : StatusName) : Byte

/-- The `k`-th value a handler's own code computes in the `run`-th call of the handler, given its arguments and what its calls
of this run returned so far (10_state.md R37: "the code of the registered handler" is a parameter). The spec is silent on
whether such a value may differ between two calls with equal arguments and replies (the code's own variables, what
`getPosition` returns after ticks: R43). DESIGN CHOICE, log 31: it may, so the count of calls is an argument. Free, log 14. -/
opaque Config.handlerBytes (k run : Nat) (op len : Byte) (payload : List Byte) (replies : List Reply) : List Byte

/-- The `k`-th number a handler's own code computes, as `handlerBytes`. Free, log 14; DESIGN CHOICE, log 31. -/
opaque Config.handlerNumber (k run : Nat) (op len : Byte) (payload : List Byte) (replies : List Reply) : Nat

/-- The `k`-th condition a handler's own code tests, as `handlerBytes`. Free, log 14; DESIGN CHOICE, log 31. -/
opaque Config.handlerTest (k run : Nat) (op len : Byte) (payload : List Byte) (replies : List Reply) : Bool

end Sys2Proof
end

