-- ==== Sys2Proof/Machine/Handler.lean ====
section
/-! DEFINITION. A request handler as plain data (10_state.md R33, 45_receiver.md R239): the finite sequence of operations it
performs, each under a condition, with operands computed from the handler's arguments, from what its earlier calls returned,
and from free values of its own code (`Config.handlerBytes` and its companions). Every handler that returns has this form
(log 14). What running one does to the block stands in Machine/Receiver.lean. -/

namespace Sys2Proof

/-- A handler's view when it computes an operand: its arguments (opcode, Length field, payload copy; R238), which of the
handler's runs this is (the model's own, log 31), and what the calls it has made so far returned, oldest first. -/
structure HandlerView where
  op      : Byte
  len     : Byte
  payload : List Byte
  run     : Nat
  replies : List Reply
deriving DecidableEq, Repr

/-- A byte string computed by a handler. -/
inductive BytesExpr where
  /-- Constant bytes. -/
  | lit (bytes : List Byte)
  /-- The opcode, one byte. -/
  | op
  /-- The Length field, one byte. -/
  | len
  /-- The payload copy (D25). -/
  | payload
  /-- The bytes of what the `k`-th call of this run returned. -/
  | reply (k : Nat)
  /-- STATUS_CODE of a status name, one byte (30_encoding.md R89). -/
  | status (name : StatusName)
  /-- `count` bytes from offset `from`. -/
  | slice (e : BytesExpr) (start count : Nat)
  /-- Concatenation. -/
  | append (e f : BytesExpr)
  /-- A value of the handler's own code: free in each call of the handler (log 14, log 31). -/
  | ext (k : Nat)
deriving DecidableEq, Repr

/-- A number computed by a handler: the operands `n` and `totalLength`. -/
inductive NumExpr where
  | lit (n : Nat)
  | lengthOf (e : BytesExpr)
  | ext (k : Nat)
deriving DecidableEq, Repr

/-- A condition a handler tests. -/
inductive CondExpr where
  | always
  | eq (e f : BytesExpr)
  | not (c : CondExpr)
  | and (c d : CondExpr)
  | ext (k : Nat)
deriving DecidableEq, Repr

/-- The operations a handler may call, and the two it may not (45_receiver.md R239). REGISTER_HANDLER stands in `Handler`. -/
inductive HandlerCall where
  | setOutput (b : BytesExpr)
  | getInput
  | readMotorState
  | sendResponse (opcode status data : BytesExpr) (n : NumExpr)
  | checksum (region : BytesExpr)
  | encodeRequest (opcode data : BytesExpr) (n : NumExpr)
  | encodeResponse (opcode status data : BytesExpr) (n : NumExpr)
  | validate (buf : BytesExpr) (total : NumExpr)
  | decode (frame : BytesExpr)
  /-- A call of the out-of-scope motion API: it changes no block state. -/
  | motion (m : MotionCall)
  /-- Not allowed: raises Reentrant (60_exceptions.md R275). -/
  | tick
  /-- Not allowed: raises Reentrant. -/
  | rxByte (b : BytesExpr)
deriving DecidableEq, Repr

/-- A Handler (10_state.md R33): the calls it makes, in order, each under its condition. -/
inductive Handler where
  /-- The handler returns. -/
  | done
  /-- If `c` holds, make the call; then go on. -/
  | call (c : CondExpr) (k : HandlerCall) (rest : Handler)
  /-- If `c` holds, REGISTER_HANDLER `h`; then go on (45_receiver.md R242, D37). -/
  | register (c : CondExpr) (h : Handler) (rest : Handler)
deriving DecidableEq, Repr

/-- What a handler sees of an operation's result: of a verdict only whether it is Ok, "the source's VALIDATE returns only a
bool" (44_frame_codec.md R195). -/
def Reply.ofResult : Result → Reply
  | .none => .none
  | .nibble v => .nibble v
  | .byte b => .byte b
  | .checksum lo hi => .checksum lo hi
  | .frame bytes => .frame bytes
  | .verdict v => .accepted (v = .ok)
  | .decoded d => .decoded d

/-- The bytes of a reply, as a handler's code reads them: a nibble in the low four bits, a checksum as lo then hi, VALIDATE's
bool as 1 or 0, a decoded frame as type, opcode, Length, status if any, and payload. -/
def replyBytes : Reply → List Byte
  | .none => []
  | .nibble v => [v.setWidth 8]
  | .byte b => [b]
  | .checksum lo hi => [lo, hi]
  | .frame bytes => bytes
  | .accepted yes => [if yes then 1 else 0]
  | .decoded none => []
  | .decoded (some d) =>
      [match d.type with | .request => 1 | .response => 2, d.op, d.len] ++ d.status.toList ++ d.payload

/-- The value of a byte-string expression. -/
def evalBytes (x : HandlerView) : BytesExpr → List Byte
  | .lit bytes => bytes
  | .op => [x.op]
  | .len => [x.len]
  | .payload => x.payload
  | .reply k => replyBytes (x.replies.getD k .none)
  | .status name => [Config.statusCode name]
  | .slice e start count => ((evalBytes x e).drop start).take count
  | .append e f => evalBytes x e ++ evalBytes x f
  | .ext k => Config.handlerBytes k x.run x.op x.len x.payload x.replies

/-- The value of a one-byte operand: the first byte of the string, 0x00 if the string is empty. -/
def evalByte (x : HandlerView) (e : BytesExpr) : Byte := (evalBytes x e).headD 0

/-- The value of a number expression. -/
def evalNum (x : HandlerView) : NumExpr → Nat
  | .lit n => n
  | .lengthOf e => (evalBytes x e).length
  | .ext k => Config.handlerNumber k x.run x.op x.len x.payload x.replies

/-- The value of a condition. -/
def evalCond (x : HandlerView) : CondExpr → Bool
  | .always => true
  | .eq e f => evalBytes x e == evalBytes x f
  | .not c => !evalCond x c
  | .and c d => evalCond x c && evalCond x d
  | .ext k => Config.handlerTest k x.run x.op x.len x.payload x.replies

end Sys2Proof
end

