-- ==== Sys2Proof/Machine/Entry.lean ====
section
/-! DEFINITION. What the Loop's caller and the environment hand to the block: an encoding with the space it belongs to
(30_encoding.md R80) and, beside the word, the operands the spec says are not in the word (R97). -/

namespace Sys2Proof

/-- The encoding spaces of spec/opcode_table.json (30_encoding.md R80, R97). Words of two spaces may look alike (the word
0x0201 is no operation word and is the key of LengthByte with byte 0x01), so an entry names its space (log 2). -/
inductive Space where
  /-- `op16`: an operation word (R97). -/
  | opWord
  /-- `rx_state_byte`: a receiver key, state code in bits 10:8 and the received byte in bits 7:0. -/
  | rxKey
  /-- `bus_address`: the three address bits (R81). -/
  | busAddress
  /-- `frame_header`: sentinel in bits 15:8 and type in bits 7:0 (R84). -/
  | frameHeader
  /-- `request_opcode`: frame byte 3 in bits 7:0 (R92). -/
  | requestOpcode
deriving DecidableEq, Repr

/-- The operands that are "fields of the syntax term and are not in the word" (30_encoding.md R97). An operation reads the
ones it has; the rest say nothing (log 2). -/
structure TermFields where
  /-- Region, payload, buffer, frame, or the bytes of a frame after its Length. -/
  bytes   : List Byte
  /-- The status of a response. -/
  status  : Byte
  /-- The payload length `n`, VALIDATE's `totalLength`, or a frame's Length byte. -/
  n       : Nat
  /-- REGISTER_HANDLER's handler. -/
  handler : Handler
deriving DecidableEq, Repr

/-- Every operand zero or empty. -/
def TermFields.zero : TermFields := { bytes := [], status := 0, n := 0, handler := .done }

/-- One operation as it is handed to the block. -/
structure Entry where
  space  : Space
  word   : OpWord
  fields : TermFields
deriving DecidableEq, Repr

/-- Why the decoder refuses an entry (30_encoding.md R95, R97). -/
inductive DecodeError where
  /-- An opid that R97 does not list. -/
  | illegalOpid (opid : Byte)
  /-- An imm the row of this opid does not allow (R97). -/
  | illegalImm (opid imm : Byte)
  /-- A receiver key with a state code above 5 or a bit above 10 set. -/
  | illegalRxKey (word : OpWord)
  /-- A bus address of more than three bits (R81). -/
  | illegalAddress (word : OpWord)
  /-- A header that is neither AA 01 nor AA 02 (R84, R85, R95). -/
  | illegalHeader (word : OpWord)
  /-- A Length, or a number of bytes after it, that no frame of this header has (R86, R87). -/
  | illegalFrame (len : Nat) (body : List Byte)
  /-- An opcode that R92 does not name; the codec still passes it on (R92), through RX_BYTE and DISPATCH. -/
  | unnamedOpcode (word : OpWord)
  /-- A request payload above 26 bytes (R88). -/
  | illegalPayload (payload : List Byte)
deriving DecidableEq, Repr

end Sys2Proof
end

