-- ==== Sys2Proof/Syntax.lean ====
section
/-! DEFINITION. The instructions: one constructor per row of spec/opcode_table.json. The operand in a word's imm is a
constructor argument, and so are the operands the spec makes "fields of the syntax term" (30_encoding.md R97). -/

namespace Sys2Proof

/-- One constructor per row of spec/opcode_table.json, in the table's order. -/
inductive Instr where
  -- operation words, 30_encoding.md R97
  | select (address : Byte)
  | strobeWrite
  | strobeRead
  | readInputNibble
  | writeOutputNibble (value : Byte)
  | tick
  | axisSlot (i : Axis)
  | portSlot (k : PortNibble)
  | axisReenable (i : Axis)
  | serviceAxis (i : Axis)
  | readMotorState
  | portaServiceLo
  | portaServiceHi
  | setOutput (b : Byte)
  | getInput
  | checksum (region : List Byte)
  | encodeRequest (opcode : Byte) (payload : List Byte) (n : Nat)
  | encodeResponse (opcode status : Byte) (payload : List Byte) (n : Nat)
  | validate (buf : List Byte) (total : Nat)
  | decodeFrame (frame : List Byte)
  | rxByte (b : Byte)
  | dispatch
  | sendResponse (opcode status : Byte) (payload : List Byte) (n : Nat)
  | registerHandler (h : Handler)
  -- the receiver's transitions, one a state (45_receiver.md R231 to R236)
  | rxSentinel (b : Byte)
  | rxTypeByte (b : Byte)
  | rxLengthByte (b : Byte)
  | rxOpCodeByte (b : Byte)
  | rxDataBytes (b : Byte)
  | rxChecksumBytes (b : Byte)
  -- the slots of the eight bus addresses (20_memory.md R61)
  | slotAxis0
  | slotAxis1
  | slotAxis2
  | slotAxis3
  | slotAxis4
  | slotAxis5
  | slotPortaLo
  | slotPortaHi
  -- a serial frame by its header: its Length byte and all that follows it (30_encoding.md R84)
  | frameRequest (len : Byte) (body : List Byte)
  | frameResponse (len : Byte) (body : List Byte)
  -- a request by its opcode, with its payload (30_encoding.md R92, 45_receiver.md R238)
  | appPing (payload : List Byte)
  | appStop (payload : List Byte)
  | appDisable (payload : List Byte)
  | appEnable (payload : List Byte)
  | appClear (payload : List Byte)
  | appMoveRelative (payload : List Byte)
  | appMoveAbsolute (payload : List Byte)
  | appSetPortA (payload : List Byte)
  | appGetPortA (payload : List Byte)
  | appIsMoving (payload : List Byte)
  | appGetCurrentPosition (payload : List Byte)
  | appMoveAtSpeed (payload : List Byte)
  | appSetRobotID (payload : List Byte)
  | appGetRobotID (payload : List Byte)
  | appSavePosition (payload : List Byte)
  | appLoadPosition (payload : List Byte)
deriving DecidableEq, Repr

end Sys2Proof
end

