-- ==== Sys2Proof/WellFormed.lean ====
section
/-! DEFINITION. The checks on an instruction that its types do not make: the shape of a frame (30_encoding.md R86, R87) and
the payload limit of a request (R88). -/

namespace Sys2Proof

/-- After a header, a Length in 1..27 is followed by Length + 2 bytes, the opcode through the second checksum byte (R86:
T = Length + 5). An illegal Length (R87, R95) ends what the receiver takes for this frame. -/
def frameShape (len : Byte) (body : List Byte) : Bool :=
  if 1 ≤ len.toNat ∧ len.toNat ≤ 27 then body.length == len.toNat + 2 else body.isEmpty

/-- A request carries 0 to 26 payload bytes (R88). -/
def requestPayload (payload : List Byte) : Bool := decide (payload.length ≤ 26)

/-- An instruction is well formed. -/
def Instr.wellFormed : Instr → Bool
  | .select _ | .strobeWrite | .strobeRead | .readInputNibble | .writeOutputNibble _ | .tick | .axisSlot _ | .portSlot _
  | .axisReenable _ | .serviceAxis _ | .readMotorState | .portaServiceLo | .portaServiceHi | .setOutput _ | .getInput
  | .checksum _ | .encodeRequest _ _ _ | .encodeResponse _ _ _ _ | .validate _ _ | .decodeFrame _ | .rxByte _ | .dispatch
  | .sendResponse _ _ _ _ | .registerHandler _ | .rxSentinel _ | .rxTypeByte _ | .rxLengthByte _ | .rxOpCodeByte _
  | .rxDataBytes _ | .rxChecksumBytes _ | .slotAxis0 | .slotAxis1 | .slotAxis2 | .slotAxis3 | .slotAxis4 | .slotAxis5
  | .slotPortaLo | .slotPortaHi => true
  | .frameRequest len body | .frameResponse len body => frameShape len body
  | .appPing p | .appStop p | .appDisable p | .appEnable p | .appClear p | .appMoveRelative p | .appMoveAbsolute p
  | .appSetPortA p | .appGetPortA p | .appIsMoving p | .appGetCurrentPosition p | .appMoveAtSpeed p | .appSetRobotID p
  | .appGetRobotID p | .appSavePosition p | .appLoadPosition p => requestPayload p

end Sys2Proof
end

