-- ==== Sys2Proof/Decode.lean ====
section
/-! DEFINITION. The decoder, total on every entry and refusing by name, and the encoder, both written from the tables of
30_encoding.md (R81, R84, R92, R97) and from the receiver keys of spec/opcode_table.json. -/

namespace Sys2Proof

/-- An imm "must be 0 where the table says 0" (R97). -/
def decodeNoImm (opid imm : Byte) (i : Instr) : Except DecodeError Instr :=
  if imm = 0 then .ok i else .error (.illegalImm opid imm)

/-- An axis index: an imm above 5 is refused (R97). -/
def decodeAxisImm (opid imm : Byte) (mk : Axis → Instr) : Except DecodeError Instr :=
  if h : imm.toNat < 6 then .ok (mk ⟨imm.toNat, h⟩) else .error (.illegalImm opid imm)

/-- A sub-address: an imm other than 6 or 7 is refused (R97). -/
def decodePortImm (opid imm : Byte) (mk : PortNibble → Instr) : Except DecodeError Instr :=
  if imm = 6 then .ok (mk .lo) else if imm = 7 then .ok (mk .hi) else .error (.illegalImm opid imm)

/-- An imm that must be one constant (R97: PORTA_SERVICE_LO and PORTA_SERVICE_HI). -/
def decodeFixedImm (opid imm want : Byte) (i : Instr) : Except DecodeError Instr :=
  if imm = want then .ok i else .error (.illegalImm opid imm)

/-- An operation word (R97). SELECT, WRITE_OUTPUT_NIBBLE, SET_OUTPUT, ENCODE_REQUEST, ENCODE_RESPONSE, RX_BYTE and
SEND_RESPONSE take every imm. -/
def decodeOpWord (w : OpWord) (f : TermFields) : Except DecodeError Instr :=
  let imm := lowByte w
  match highByte w with
  | 0x01#8 => .ok (.select imm)
  | 0x02#8 => decodeNoImm 0x02 imm .strobeWrite
  | 0x03#8 => decodeNoImm 0x03 imm .strobeRead
  | 0x04#8 => decodeNoImm 0x04 imm .readInputNibble
  | 0x05#8 => .ok (.writeOutputNibble imm)
  | 0x10#8 => decodeNoImm 0x10 imm .tick
  | 0x11#8 => decodeAxisImm 0x11 imm .axisSlot
  | 0x12#8 => decodePortImm 0x12 imm .portSlot
  | 0x18#8 => decodeAxisImm 0x18 imm .axisReenable
  | 0x19#8 => decodeAxisImm 0x19 imm .serviceAxis
  | 0x1A#8 => decodeNoImm 0x1A imm .readMotorState
  | 0x20#8 => decodeFixedImm 0x20 imm 6 .portaServiceLo
  | 0x21#8 => decodeFixedImm 0x21 imm 7 .portaServiceHi
  | 0x22#8 => .ok (.setOutput imm)
  | 0x23#8 => decodeNoImm 0x23 imm .getInput
  | 0x30#8 => decodeNoImm 0x30 imm (.checksum f.bytes)
  | 0x31#8 => .ok (.encodeRequest imm f.bytes f.n)
  | 0x32#8 => .ok (.encodeResponse imm f.status f.bytes f.n)
  | 0x33#8 => decodeNoImm 0x33 imm (.validate f.bytes f.n)
  | 0x34#8 => decodeNoImm 0x34 imm (.decodeFrame f.bytes)
  | 0x40#8 => .ok (.rxByte imm)
  | 0x46#8 => decodeNoImm 0x46 imm .dispatch
  | 0x47#8 => .ok (.sendResponse imm f.status f.bytes f.n)
  | 0x48#8 => decodeNoImm 0x48 imm (.registerHandler f.handler)
  | opid => .error (.illegalOpid opid)

/-- A receiver key: state code in bits 10:8, received byte in bits 7:0 (opcode_table.json, rows RX_BYTE.*). -/
def decodeRxKey (w : OpWord) : Except DecodeError Instr :=
  let b := lowByte w
  match highByte w with
  | 0x00#8 => .ok (.rxSentinel b)
  | 0x01#8 => .ok (.rxTypeByte b)
  | 0x02#8 => .ok (.rxLengthByte b)
  | 0x03#8 => .ok (.rxOpCodeByte b)
  | 0x04#8 => .ok (.rxDataBytes b)
  | 0x05#8 => .ok (.rxChecksumBytes b)
  | _ => .error (.illegalRxKey w)

/-- A bus address: every 3-bit value is legal (R81), and the slot at it is the map of 20_memory.md R61. -/
def decodeBusAddress (w : OpWord) : Except DecodeError Instr :=
  match w with
  | 0#16 => .ok .slotAxis0
  | 1#16 => .ok .slotAxis1
  | 2#16 => .ok .slotAxis2
  | 3#16 => .ok .slotAxis3
  | 4#16 => .ok .slotAxis4
  | 5#16 => .ok .slotAxis5
  | 6#16 => .ok .slotPortaLo
  | 7#16 => .ok .slotPortaHi
  | w => .error (.illegalAddress w)

/-- A frame whose Length byte is `f.n` and whose bytes after it are `f.bytes` (R84, R86). -/
def decodeFrameBody (f : TermFields) (mk : Byte → List Byte → Instr) : Except DecodeError Instr :=
  if f.n < 256 ∧ frameShape (BitVec.ofNat 8 f.n) f.bytes then .ok (mk (BitVec.ofNat 8 f.n) f.bytes)
  else .error (.illegalFrame f.n f.bytes)

/-- A frame header: the sentinel 0xAA, then the Type (R84, R85). -/
def decodeFrameHeader (w : OpWord) (f : TermFields) : Except DecodeError Instr :=
  match w with
  | 0xAA01#16 => decodeFrameBody f .frameRequest
  | 0xAA02#16 => decodeFrameBody f .frameResponse
  | w => .error (.illegalHeader w)

/-- A request's payload holds at most 26 bytes (R88). -/
def decodeRequestPayload (f : TermFields) (mk : List Byte → Instr) : Except DecodeError Instr :=
  if requestPayload f.bytes then .ok (mk f.bytes) else .error (.illegalPayload f.bytes)

/-- A request opcode: the sixteen of R92, "sequential starting at 1". -/
def decodeRequestOpcode (w : OpWord) (f : TermFields) : Except DecodeError Instr :=
  match w with
  | 0x01#16 => decodeRequestPayload f .appPing
  | 0x02#16 => decodeRequestPayload f .appStop
  | 0x03#16 => decodeRequestPayload f .appDisable
  | 0x04#16 => decodeRequestPayload f .appEnable
  | 0x05#16 => decodeRequestPayload f .appClear
  | 0x06#16 => decodeRequestPayload f .appMoveRelative
  | 0x07#16 => decodeRequestPayload f .appMoveAbsolute
  | 0x08#16 => decodeRequestPayload f .appSetPortA
  | 0x09#16 => decodeRequestPayload f .appGetPortA
  | 0x0A#16 => decodeRequestPayload f .appIsMoving
  | 0x0B#16 => decodeRequestPayload f .appGetCurrentPosition
  | 0x0C#16 => decodeRequestPayload f .appMoveAtSpeed
  | 0x0D#16 => decodeRequestPayload f .appSetRobotID
  | 0x0E#16 => decodeRequestPayload f .appGetRobotID
  | 0x0F#16 => decodeRequestPayload f .appSavePosition
  | 0x10#16 => decodeRequestPayload f .appLoadPosition
  | w => .error (.unnamedOpcode w)

/-- The decoder. -/
def decode (e : Entry) : Except DecodeError Instr :=
  match e.space with
  | .opWord => decodeOpWord e.word e.fields
  | .rxKey => decodeRxKey e.word
  | .busAddress => decodeBusAddress e.word
  | .frameHeader => decodeFrameHeader e.word e.fields
  | .requestOpcode => decodeRequestOpcode e.word e.fields

/-- An operation word with no operand beside it. -/
def encodeOp (opid imm : Byte) : Entry := { space := .opWord, word := joinBytes opid imm, fields := .zero }

/-- An operation word with operands beside it. -/
def encodeOpWith (opid imm : Byte) (f : TermFields) : Entry :=
  { space := .opWord, word := joinBytes opid imm, fields := f }

/-- A receiver key. -/
def encodeRxKey (st : RxState) (b : Byte) : Entry :=
  { space := .rxKey, word := joinBytes (st.code.setWidth 8) b, fields := .zero }

/-- A bus address. -/
def encodeBusAddress (a : BusAddress) : Entry := { space := .busAddress, word := a.setWidth 16, fields := .zero }

/-- A frame by its header. -/
def encodeFrameHeader (type : Byte) (len : Byte) (body : List Byte) : Entry :=
  { space := .frameHeader, word := joinBytes 0xAA type, fields := { TermFields.zero with bytes := body, n := len.toNat } }

/-- A request by its opcode. -/
def encodeRequestOpcode (opcode : Byte) (payload : List Byte) : Entry :=
  { space := .requestOpcode, word := opcode.setWidth 16, fields := { TermFields.zero with bytes := payload } }

/-- An axis index in an imm. -/
def axisImm (i : Axis) : Byte := BitVec.ofNat 8 i.val

/-- A sub-address in an imm. -/
def portImm (k : PortNibble) : Byte := k.address.setWidth 8

/-- The encoder (R97's table for the operation words). -/
def encode : Instr → Entry
  | .select address => encodeOp 0x01 address
  | .strobeWrite => encodeOp 0x02 0
  | .strobeRead => encodeOp 0x03 0
  | .readInputNibble => encodeOp 0x04 0
  | .writeOutputNibble value => encodeOp 0x05 value
  | .tick => encodeOp 0x10 0
  | .axisSlot i => encodeOp 0x11 (axisImm i)
  | .portSlot k => encodeOp 0x12 (portImm k)
  | .axisReenable i => encodeOp 0x18 (axisImm i)
  | .serviceAxis i => encodeOp 0x19 (axisImm i)
  | .readMotorState => encodeOp 0x1A 0
  | .portaServiceLo => encodeOp 0x20 6
  | .portaServiceHi => encodeOp 0x21 7
  | .setOutput b => encodeOp 0x22 b
  | .getInput => encodeOp 0x23 0
  | .checksum region => encodeOpWith 0x30 0 { TermFields.zero with bytes := region }
  | .encodeRequest opcode payload n => encodeOpWith 0x31 opcode { TermFields.zero with bytes := payload, n := n }
  | .encodeResponse opcode status payload n =>
      encodeOpWith 0x32 opcode { TermFields.zero with bytes := payload, status := status, n := n }
  | .validate buf total => encodeOpWith 0x33 0 { TermFields.zero with bytes := buf, n := total }
  | .decodeFrame frame => encodeOpWith 0x34 0 { TermFields.zero with bytes := frame }
  | .rxByte b => encodeOp 0x40 b
  | .dispatch => encodeOp 0x46 0
  | .sendResponse opcode status payload n =>
      encodeOpWith 0x47 opcode { TermFields.zero with bytes := payload, status := status, n := n }
  | .registerHandler h => encodeOpWith 0x48 0 { TermFields.zero with handler := h }
  | .rxSentinel b => encodeRxKey .sentinel b
  | .rxTypeByte b => encodeRxKey .typeByte b
  | .rxLengthByte b => encodeRxKey .lengthByte b
  | .rxOpCodeByte b => encodeRxKey .opCodeByte b
  | .rxDataBytes b => encodeRxKey .dataBytes b
  | .rxChecksumBytes b => encodeRxKey .checksumBytes b
  | .slotAxis0 => encodeBusAddress 0
  | .slotAxis1 => encodeBusAddress 1
  | .slotAxis2 => encodeBusAddress 2
  | .slotAxis3 => encodeBusAddress 3
  | .slotAxis4 => encodeBusAddress 4
  | .slotAxis5 => encodeBusAddress 5
  | .slotPortaLo => encodeBusAddress 6
  | .slotPortaHi => encodeBusAddress 7
  | .frameRequest len body => encodeFrameHeader 0x01 len body
  | .frameResponse len body => encodeFrameHeader 0x02 len body
  | .appPing p => encodeRequestOpcode 0x01 p
  | .appStop p => encodeRequestOpcode 0x02 p
  | .appDisable p => encodeRequestOpcode 0x03 p
  | .appEnable p => encodeRequestOpcode 0x04 p
  | .appClear p => encodeRequestOpcode 0x05 p
  | .appMoveRelative p => encodeRequestOpcode 0x06 p
  | .appMoveAbsolute p => encodeRequestOpcode 0x07 p
  | .appSetPortA p => encodeRequestOpcode 0x08 p
  | .appGetPortA p => encodeRequestOpcode 0x09 p
  | .appIsMoving p => encodeRequestOpcode 0x0A p
  | .appGetCurrentPosition p => encodeRequestOpcode 0x0B p
  | .appMoveAtSpeed p => encodeRequestOpcode 0x0C p
  | .appSetRobotID p => encodeRequestOpcode 0x0D p
  | .appGetRobotID p => encodeRequestOpcode 0x0E p
  | .appSavePosition p => encodeRequestOpcode 0x0F p
  | .appLoadPosition p => encodeRequestOpcode 0x10 p

/-- Whether an entry decodes. -/
def decodes (e : Entry) : Bool :=
  match decode e with
  | .ok _ => true
  | .error _ => false

/-- The entry of a bare word of the table, every operand beside it zero. The table's rows overlap (SELECT 0x0100 and
RX_BYTE.TypeByte 0x100; APP.Ping 0x01 and SLOT.AXIS1 0x1), so the number of bits picks the space: a space whose native width
is the word's first (opcodes for 8 bits, operation words and frame headers for 16), then the space whose narrower rows round
up to that width (bus addresses, receiver keys). DESIGN CHOICE, log 3. -/
def tableEntry (nbits w : Nat) : Entry :=
  let at_ (sp : Space) : Entry := { space := sp, word := BitVec.ofNat 16 w, fields := .zero }
  if nbits ≤ 3 then at_ .busAddress
  else if nbits ≤ 8 then (if decodes (at_ .requestOpcode) then at_ .requestOpcode else at_ .busAddress)
  else if nbits ≤ 11 then at_ .rxKey
  else if decodes (at_ .opWord) then at_ .opWord
  else if decodes (at_ .frameHeader) then at_ .frameHeader
  else at_ .rxKey

/-- What the decoder reads from a bare word of the table. -/
def decodeTableWord (nbits w : Nat) : Option Instr :=
  match decode (tableEntry nbits w) with
  | .ok i => some i
  | .error _ => none

end Sys2Proof
end

