-- ==== Sys2Proof/Machine/State.lean ====
section
/-! DEFINITION. The block state (10_state.md R21 to R35, R40), the model's own fields beside it (each is named in
INVENTORY.md under State and in a log entry), the faults and refusals, and the state after reset (R44, R300). -/

namespace Sys2Proof.Machine

/-- The fault reasons (60_exceptions.md R275). A fault is a caller's broken precondition, never a behaviour of the hardware
(10_state.md R35), so every one of them is safe. -/
inductive Fault where
  /-- Raised by SELECT with an address above 7 (40_address_bus.md R121, D15). Safe. -/
  | selectRange (address : Byte)
  /-- Raised by ENCODE_REQUEST, ENCODE_RESPONSE and SEND_RESPONSE on a payload length over the limit or unlike the payload's
  (44_frame_codec.md R192, R193, D13). Safe. -/
  | encodeLength (n : Nat)
  /-- Raised by VALIDATE when the buffer is shorter than a total length in range (44_frame_codec.md R194, D14). Safe. -/
  | validateShortBuffer
  /-- Raised when a handler calls TICK or RX_BYTE (45_receiver.md R239, D21). Safe. -/
  | reentrant
  /-- The MODEL's own (log 13): raised by an access to an offset of the receive buffer above 31, which does not exist
  (20_memory.md R60). No state that meets 10_state.md R36 raises it in RX_BYTE. Safe. -/
  | bufferRange (offset : Nat)
deriving DecidableEq, Repr

/-- Why a step has no meaning. -/
inductive Refusal where
  /-- Raised by an arm of `exec` whose instruction has no meaning yet. Safe. No arm uses it. -/
  | notModelled (mnemonic : String)
  /-- Raised by `step` when the decoder refuses the entry (30_encoding.md R95, R97). Safe. -/
  | undecodable (e : DecodeError)
  /-- Raised by a RX_BYTE.<state> row in another state: "The rule applied depends on `s.rxState`" (45_receiver.md R230), so
  the key is that of no transition here (log 16). Safe. -/
  | rxStateMismatch (key actual : RxState)
deriving DecidableEq, Repr

/-- The receive buffer's contents: pairs of offset and byte, offsets strictly rising, no byte equal to what an unlisted offset
reads as (`Memory.wf`). -/
abbrev Memory := List Host.Cell

/-- The state: 10_state.md R22 to R35 and R40, then the model's own fields. -/
structure State where
  /-- The slot counter, the block's program counter (R22). -/
  idx : BusAddress
  /-- The address lines A2..A0 (R23). -/
  a : BusAddress
  /-- IO-Write, active low: `true` is 1, deasserted (R24). -/
  nIOW : Bool
  /-- IO-Read, active low (R24). -/
  nIOR : Bool
  /-- The output data lines DO3..DO0 (R25). -/
  dout : Nibble
  /-- Port A's cached output byte (R26). -/
  portOut : Byte
  /-- Port A's cached input nibble of address 6 (R27). -/
  portInLo : Nibble
  /-- Port A's cached input nibble of address 7 (R27). -/
  portInHi : Nibble
  /-- The packed moving flags (R28). -/
  motorState : Byte
  /-- The receive state machine's state (R29). -/
  rxState : RxState
  /-- The receive buffer (R30). -/
  buf : Memory
  /-- The number of bytes of the current frame stored (R31). -/
  pos : Nat
  /-- The Length byte of the frame being assembled (R32). -/
  rxLen : Byte
  /-- The registered request handler (R33). -/
  handler : Option Handler
  /-- The serial transmit stream, oldest byte first (R34). -/
  tx : List Byte
  /-- The event trace, oldest event first (R40). -/
  trace : List Event
  /-- The sticky fault mark (R35). -/
  fault : Option Fault
  /-- MODEL: the parameters of 00_scope.md R9 (log 9). -/
  params : Params
  /-- MODEL: what the input lines will show, oldest first (log 10). -/
  answersDI : List InputLines
  /-- MODEL: what the actuators' service calls will give, oldest first (log 10). -/
  answersService : List (Bool × Nibble)
  /-- MODEL: what `motorsEnabled()` will answer, oldest first (log 10). -/
  answersEnabled : List Bool
  /-- MODEL: how many draws the free values of Config have answered (log 10). -/
  drawCount : Nat
  /-- MODEL: how many times a handler has been called (log 31). -/
  handlerRuns : Nat
  /-- MODEL: the operations yet to be issued, oldest first (log 1). -/
  agenda : List Entry
  /-- MODEL: what the most recent value-returning operation returned (log 11). -/
  ret : Result
  /-- MODEL: the cause code of the most recent RX_BYTE (log 20). -/
  rxCause : Option RxCause
deriving DecidableEq, Repr

/-- The values 10_state.md R44 leaves unspecified: draws held until first written. -/
structure ResetDraws where
  a          : BusAddress
  dout       : Nibble
  rxLen      : Byte
  buf        : Memory
  portOut    : Byte
  portInLo   : Nibble
  portInHi   : Nibble
  motorState : Byte
deriving DecidableEq, Repr

/-- The values the model names for them: zero, and a buffer with nothing listed. DESIGN CHOICE, log 5 to log 8. -/
def ResetDraws.named : ResetDraws :=
  { a := 0, dout := 0, rxLen := 0, buf := [], portOut := 0, portInLo := 0, portInHi := 0, motorState := 0 }

/-- The state after reset for every choice of parameters and draws (10_state.md R44, 70_reset_and_hazards.md R300). -/
def State.resetWith (p : Params) (d : ResetDraws) : State where
  idx := 0
  a := d.a
  nIOW := true
  nIOR := true
  dout := d.dout
  portOut := if p.resetZeroGlobals then 0 else d.portOut
  portInLo := if p.resetZeroGlobals then 0 else d.portInLo
  portInHi := if p.resetZeroGlobals then 0 else d.portInHi
  motorState := if p.resetZeroGlobals then 0 else d.motorState
  rxState := .sentinel
  buf := d.buf
  pos := 0
  rxLen := d.rxLen
  handler := none
  tx := []
  trace := []
  fault := none
  params := p
  answersDI := []
  answersService := []
  answersEnabled := []
  drawCount := 0
  handlerRuns := 0
  agenda := []
  ret := .none
  rxCause := none

/-- The machine right after reset: the parameters' defaults (00_scope.md R9) and the named draws. -/
def State.reset : State := State.resetWith Params.default ResetDraws.named

end Sys2Proof.Machine
end

