-- ==== Sys2Proof/Machine/Flags.lean ====
section
/-! DEFINITION. The block's only flags: the moving bits of `motorState` (10_state.md R28, 42_axis_slot.md R161, R164). -/

namespace Sys2Proof.Machine

/-- The mask of axis i's bit: bit i (D29). -/
def axisMask (i : Axis) : Byte := BitVec.ofNat 8 1 <<< i.val

/-- `motorState[i] <- r`, "The other seven bits are unchanged" (42_axis_slot.md R161). -/
def setMoving (m : Byte) (i : Axis) (r : Bool) : Byte :=
  (m &&& ~~~axisMask i) ||| (BitVec.setWidth 8 (BitVec.ofBool r) <<< i.val)

/-- The moving flag of axis i, bit i (42_axis_slot.md R164). -/
def movingFlag (m : Byte) (i : Axis) : Bool := m.getLsbD i.val

end Sys2Proof.Machine
end

