-- ==== Sys2Proof/Machine/Operands.lean ====
section
/-! DEFINITION. Operand assembly (30_encoding.md R99): every operand form of the block. "No operand is sign-extended or scaled
anywhere in the block." -/

namespace Sys2Proof.Machine

/-- `v[3:0]` of a byte (R82: "from the low 4 bits of value"). -/
def lowNibble (v : Byte) : Nibble := v.extractLsb' 0 4

/-- The output byte "shifted right 4" (43_port_a.md R171). -/
def highNibbleShifted (v : Byte) : Byte := v >>> 4

/-- `zext_8` of a nibble. -/
def zextNibble (v : Nibble) : Byte := v.setWidth 8

/-- The Port A input byte, `zext_8(portInHi) << 4 | zext_8(portInLo)` (43_port_a.md R173). -/
def portInputByte (hi lo : Nibble) : Byte := (zextNibble hi <<< 4) ||| zextNibble lo

/-- The input nibble: line DIi in bit i (30_encoding.md R83). -/
def packLines (l : InputLines) : Nibble :=
  BitVec.ofBool l.di3 ++ BitVec.ofBool l.di2 ++ BitVec.ofBool l.di1 ++ BitVec.ofBool l.di0

/-- The four lines after the threshold, at the `n`-th draw (R83: `thresh(level(DIi))`). -/
def freeLines (n : Nat) : InputLines where
  di0 := Config.threshold (Config.lineLevel n 0)
  di1 := Config.threshold (Config.lineLevel n 1)
  di2 := Config.threshold (Config.lineLevel n 2)
  di3 := Config.threshold (Config.lineLevel n 3)

/-- A request's Length, `zext_8(n) + 1` (30_encoding.md R86). -/
def requestLength (n : Nat) : Byte := BitVec.ofNat 8 n + 1

/-- A response's Length, `zext_8(n) + 2` (R86). -/
def responseLength (n : Nat) : Byte := BitVec.ofNat 8 n + 2

/-- The total length of a frame with this Length, `rxLen + 5` (R86). -/
def totalLength (len : Byte) : Nat := len.toNat + 5

/-- The number of data bytes on receive, `rxLen − 1` (R91). -/
def dataCount (len : Byte) : Nat := len.toNat - 1

/-- An axis number as the address lines carry it (20_memory.md R61). -/
def axisAddress (i : Axis) : BusAddress := BitVec.ofNat 3 i.val

/-- The device at a bus address (20_memory.md R61): axes at 0 to 5 and the Port A nibbles at 6 and 7. -/
def deviceAt (a : BusAddress) : Device :=
  if h : a.toNat < 6 then .axis ⟨a.toNat, h⟩ else if a = 6 then .portA .lo else .portA .hi

end Sys2Proof.Machine
end

