-- ==== Sys2Proof/Machine/Ops.lean ====
section
/-! DEFINITION. The named operations over the state: the receive buffer, the events, the environment's answers, taking a fault
and discarding a frame, and the frame around every meaning. -/

namespace Sys2Proof.Machine

/-- The number of bytes of the receive buffer, `FRAME_MAX` (10_state.md R30, 00_scope.md R8). -/
def bufferSize : Nat := 32

/-- What an unlisted offset of the receive buffer reads as. R44 gives none: DESIGN CHOICE 0x00, log 8. -/
def unlistedByte : Byte := 0

/-- Read one byte (00_scope.md R12, `buf[i]`). -/
def Memory.read : Memory → Nat → Byte
  | [], _ => unlistedByte
  | (k, v) :: m, i => if k = i then v else Memory.read m i

/-- Take the entry of an offset out. -/
def Memory.erase : Memory → Nat → Memory
  | [], _ => []
  | (k, v) :: m, i => if k = i then m else (k, v) :: Memory.erase m i

/-- Put an entry for an offset in, in order. -/
def Memory.insert : Memory → Nat → Byte → Memory
  | [], i, b => [(i, b)]
  | (k, v) :: m, i, b =>
      if i < k then (i, b) :: (k, v) :: m else if k = i then (i, b) :: m else (k, v) :: Memory.insert m i b

/-- Write one byte (00_scope.md R12, `buf[i] <- v`), keeping the canonical form: a byte an unlisted offset reads as is not
listed. -/
def Memory.write (m : Memory) (i : Nat) (b : Byte) : Memory :=
  if b = unlistedByte then Memory.erase m i else Memory.insert m i b

/-- The offsets from `lo` on rise strictly and stay inside the buffer, and no byte is what an unlisted offset reads as. -/
def Memory.wfFrom : Nat → Memory → Bool
  | _, [] => true
  | lo, (k, v) :: m => decide (lo ≤ k) && decide (k < bufferSize) && v != unlistedByte && Memory.wfFrom (k + 1) m

/-- The canonical form. -/
def Memory.wf (m : Memory) : Bool := Memory.wfFrom 0 m

/-- `buf[lo .. lo+n−1]`. -/
def Memory.slice (m : Memory) : Nat → Nat → List Byte
  | _, 0 => []
  | lo, n + 1 => Memory.read m lo :: Memory.slice m (lo + 1) n

/-- `emit E` (00_scope.md R13). -/
def State.emit (s : State) (e : Event) : State := { s with trace := s.trace ++ [e] }

/-- `send bs` (00_scope.md R13, D22): all of the bytes at once. -/
def State.send (s : State) (bytes : List Byte) : State := { s with tx := s.tx ++ bytes }

/-- Give a value back to the caller (10_state.md R43; log 11). -/
def State.answer (s : State) (r : Result) : State := { s with ret := r }

/-- `raise Fault(reason)` (00_scope.md R13, 60_exceptions.md R275): sets the sticky mark, records the reason and its operand
and nothing else. A mark that is set is "never cleared" (10_state.md R35), so it is not replaced. -/
def State.raise (s : State) (r : Fault) : State :=
  match s.fault with
  | none => { s with fault := some r }
  | some _ => s

/-- `discard(cause)` (00_scope.md R13, 60_exceptions.md R271): the partial frame is dropped and nothing else changes; the cause
code goes to the model's own field (log 20). -/
def State.discard (s : State) (cause : RxCause) : State :=
  { s with rxState := .sentinel, pos := 0, rxCause := some cause }

/-- Go on with the next action unless a fault was raised: "no operation has a step" once the mark is set (R35). -/
def State.andThen (s : State) (f : State → State) : State :=
  match s.fault with
  | none => f s
  | some _ => s

/-- Perform one operation (20_memory.md R69): with no fault mark its effect, a next state; with the mark set there is no step
(10_state.md R35) and the machine stands at its fault (log 12). -/
def perform (s : State) (f : State → State) : Host.Outcome State Fault Refusal :=
  match s.fault with
  | none => .next (f s)
  | some r => .fault r

/-- `buf[i] <- b`; an offset above 31 does not exist (20_memory.md R60; log 13). -/
def State.bufWrite (s : State) (i : Nat) (b : Byte) : State :=
  if i < bufferSize then { s with buf := s.buf.write i b } else s.raise (.bufferRange i)

/-- What the next sample of the input lines shows: a draw (40_address_bus.md R124, D16; log 10). -/
def State.sampleAnswer (s : State) : Nibble :=
  match s.answersDI with
  | [] => packLines (freeLines s.drawCount)
  | l :: _ => packLines l

/-- That draw taken. -/
def State.sampleTaken (s : State) : State :=
  match s.answersDI with
  | [] => { s with drawCount := s.drawCount + 1 }
  | _ :: rest => { s with answersDI := rest }

/-- What the next `service(i)` returns and leaves on the output lines: draws (42_axis_slot.md R161, D17, D18; log 10). -/
def State.serviceAnswer (s : State) (i : Axis) : Bool × Nibble :=
  match s.answersService with
  | [] => (Config.serviceResult i s.drawCount, Config.serviceLines i s.drawCount)
  | p :: _ => p

/-- That draw taken. -/
def State.serviceTaken (s : State) : State :=
  match s.answersService with
  | [] => { s with drawCount := s.drawCount + 1 }
  | _ :: rest => { s with answersService := rest }

/-- What the next `motorsEnabled()` answers: a draw (42_axis_slot.md R160, D19; log 10). -/
def State.enabledAnswer (s : State) : Bool :=
  match s.answersEnabled with
  | [] => Config.motorsEnabled s.drawCount
  | e :: _ => e

/-- That draw taken. -/
def State.enabledTaken (s : State) : State :=
  match s.answersEnabled with
  | [] => { s with drawCount := s.drawCount + 1 }
  | _ :: rest => { s with answersEnabled := rest }

/-- One more call of the handler is counted, so that the free values of its code are fresh in each (log 31). -/
def State.handlerEntered (s : State) : State := { s with handlerRuns := s.handlerRuns + 1 }

end Sys2Proof.Machine
end

