-- ==== Sys2Proof/Machine/FrameCodec.lean ====
section
/-! DEFINITION. The frame codec (44_frame_codec.md R190 to R198): pure functions, and the operations that return their values
or raise their faults. They read and write no block state and emit no event. -/

namespace Sys2Proof.Machine

/-- SENTINEL, 00_scope.md R8. -/
def sentinelByte : Byte := 0xAA

/-- TYPE_REQUEST, 00_scope.md R8. -/
def typeRequest : Byte := 1

/-- TYPE_RESPONSE, 00_scope.md R8. -/
def typeResponse : Byte := 2

/-- The loop of CHECKSUM (R190) from position `j` on, with the accumulators so far. -/
def checksumFrom (j : Nat) (acc0 acc1 : Byte) : List Byte → Byte × Byte
  | [] => (acc0, acc1)
  | b :: rest =>
      if j % 2 = 0 then checksumFrom (j + 1) (acc0 ^^^ b) acc1 rest else checksumFrom (j + 1) acc0 (acc1 ^^^ b) rest

/-- CHECKSUM (R190): (CRC_lo, CRC_hi), both accumulators starting at 0x00 (D8) and CRC_lo = accumulator 0 (D9). Log 22. -/
def checksum (region : List Byte) : Byte × Byte := checksumFrom 0 0 0 region

/-- A region with its two checksum bytes, CRC_lo first (30_encoding.md R90). -/
def withChecksum (region : List Byte) : List Byte := region ++ [(checksum region).1, (checksum region).2]

/-- A request frame (R192, 30_encoding.md R84). -/
def requestFrame (opcode : Byte) (payload : List Byte) (n : Nat) : List Byte :=
  withChecksum ([sentinelByte, typeRequest, requestLength n, opcode] ++ payload)

/-- A response frame (R193, R84). -/
def responseFrame (opcode status : Byte) (payload : List Byte) (n : Nat) : List Byte :=
  withChecksum ([sentinelByte, typeResponse, responseLength n, opcode, status] ++ payload)

/-- ENCODE_REQUEST (R192): PAYLOAD_MAX_REQ is 26. -/
def encodeRequestBytes (opcode : Byte) (payload : List Byte) (n : Nat) : Except Fault (List Byte) :=
  if n ≠ payload.length ∨ 26 < n then .error (.encodeLength n) else .ok (requestFrame opcode payload n)

/-- ENCODE_RESPONSE (R193): PAYLOAD_MAX_RSP is 25. -/
def encodeResponseBytes (opcode status : Byte) (payload : List Byte) (n : Nat) : Except Fault (List Byte) :=
  if n ≠ payload.length ∨ 25 < n then .error (.encodeLength n) else .ok (responseFrame opcode status payload n)

/-- `buf[i]` of an operand buffer; only offsets below a length that was checked are read. -/
def byteAt (buf : List Byte) (i : Nat) : Byte := buf.getD i 0

/-- The checks of VALIDATE on a buffer that holds `total` bytes, in the source's order (R194). -/
def frameVerdict (buf : List Byte) (total : Nat) : Verdict :=
  if (byteAt buf 2).toNat ≠ total - 5 then .lenMismatch
  else if byteAt buf 0 ≠ sentinelByte then .sentinel
  else if byteAt buf 1 ≠ typeRequest ∧ byteAt buf 1 ≠ typeResponse then .type
  else if checksum (buf.take (total - 2)) ≠ (byteAt buf (total - 2), byteAt buf (total - 1)) then .checksum
  else .ok

/-- VALIDATE (R194): FRAME_MIN 6 and FRAME_MAX 32, then the buffer's length (D14), then the checks. -/
def validateBytes (buf : List Byte) (total : Nat) : Except Fault Verdict :=
  if total < 6 ∨ 32 < total then .ok .lenRange
  else if buf.length < total then .error .validateShortBuffer
  else .ok (frameVerdict buf total)

/-- DECODE (R197, D39). -/
def decodeBytes (f : List Byte) : Option Decoded :=
  let total := f.length
  let len := byteAt f 2
  match validateBytes f total with
  | .ok .ok =>
      if byteAt f 1 = typeRequest then
        some { type := .request, op := byteAt f 3, len := len, status := none, payload := (f.take (total - 2)).drop 4 }
      else if len = 1 then
        some { type := .response, op := byteAt f 3, len := 1, status := none, payload := [] }
      else
        some { type := .response, op := byteAt f 3, len := len, status := some (byteAt f 4),
               payload := (f.take (total - 2)).drop 5 }
  | _ => none

/-- Return a frame, or raise the fault of the encode. -/
def State.answerFrame (s : State) : Except Fault (List Byte) → State
  | .ok bytes => s.answer (.frame bytes)
  | .error r => s.raise r

/-- Return a verdict, or raise the fault of VALIDATE. -/
def State.answerVerdict (s : State) : Except Fault Verdict → State
  | .ok v => s.answer (.verdict v)
  | .error r => s.raise r

/-- CHECKSUM, R190. -/
def execChecksum (region : List Byte) (s : State) : Host.Outcome State Fault Refusal :=
  perform s fun s => s.answer (.checksum (checksum region).1 (checksum region).2)

/-- ENCODE_REQUEST, R192. -/
def execEncodeRequest (opcode : Byte) (payload : List Byte) (n : Nat) (s : State) : Host.Outcome State Fault Refusal :=
  perform s fun s => s.answerFrame (encodeRequestBytes opcode payload n)

/-- ENCODE_RESPONSE, R193. -/
def execEncodeResponse (opcode status : Byte) (payload : List Byte) (n : Nat) (s : State) :
    Host.Outcome State Fault Refusal :=
  perform s fun s => s.answerFrame (encodeResponseBytes opcode status payload n)

/-- VALIDATE, R194: the verdict is returned. -/
def execValidate (buf : List Byte) (total : Nat) (s : State) : Host.Outcome State Fault Refusal :=
  perform s fun s => s.answerVerdict (validateBytes buf total)

/-- DECODE, R197. -/
def execDecodeFrame (frame : List Byte) (s : State) : Host.Outcome State Fault Refusal :=
  perform s fun s => s.answer (.decoded (decodeBytes frame))

end Sys2Proof.Machine
end

