-- ==== Sys2Proof/Machine/AddressBus.lean ====
section
/-! DEFINITION. The AddressBus operations (40_address_bus.md R120 to R126): each changes pin state and appends exactly one
event. The state-to-state operations are shared with the slots; `exec…` is the operation called on its own. -/

namespace Sys2Proof.Machine

/-- The effect of SELECT on an address in 0..7 (R121): drive the three lines together, emit `Sel`. -/
def driveAddress (a : BusAddress) (s : State) : State := { s with a := a }.emit (.sel a)

/-- SELECT (R121): an address above 7 raises SelectRange and drives nothing (D15). -/
def selectAddress (address : Byte) (s : State) : State :=
  if 7 < address.toNat then s.raise (.selectRange address) else driveAddress (address.setWidth 3) s

/-- STROBE_WRITE (R122): nIOW low, the hold (not modelled, R320), nIOW high, `PulseW` with the lines as they stand. -/
def pulseWrite (s : State) : State :=
  let low := { s with nIOW := false }
  let high := { low with nIOW := true }
  high.emit (.pulseW high.a high.dout)

/-- STROBE_READ (R123): the same for nIOR; nothing is sampled. -/
def pulseRead (s : State) : State :=
  let low := { s with nIOR := false }
  let high := { low with nIOR := true }
  high.emit (.pulseR high.a)

/-- READ_INPUT_NIBBLE's effect on the state (R124); its value is `s.sampleAnswer`. -/
def sampleInput (s : State) : State := s.sampleTaken.emit (.sample s.a s.sampleAnswer)

/-- WRITE_OUTPUT_NIBBLE (R125): the low four bits of the value go to the lines; bits 7:4 are ignored. -/
def driveOutput (value : Byte) (s : State) : State := { s with dout := lowNibble value }.emit (.out (lowNibble value))

/-- SELECT, R121. -/
def execSelect (address : Byte) (s : State) : Host.Outcome State Fault Refusal := perform s (selectAddress address)

/-- STROBE_WRITE, R122. -/
def execStrobeWrite (s : State) : Host.Outcome State Fault Refusal := perform s pulseWrite

/-- STROBE_READ, R123. -/
def execStrobeRead (s : State) : Host.Outcome State Fault Refusal := perform s pulseRead

/-- READ_INPUT_NIBBLE, R124: the sampled nibble is returned. -/
def execReadInputNibble (s : State) : Host.Outcome State Fault Refusal :=
  perform s fun s => (sampleInput s).answer (.nibble s.sampleAnswer)

/-- WRITE_OUTPUT_NIBBLE, R125. -/
def execWriteOutputNibble (value : Byte) (s : State) : Host.Outcome State Fault Refusal := perform s (driveOutput value)

end Sys2Proof.Machine
end

