-- ==== Sys2Proof/Machine/PortA.lean ====
section
/-! DEFINITION. Port A (43_port_a.md R170 to R175): the two port services, each sampling before it drives (R316), and the
host-facing accessors of the cache. -/

namespace Sys2Proof.Machine

/-- PORTA_SERVICE_LO (R170): sample into `portInLo`, then drive `portOut[3:0]`. -/
def servicePortLo (s : State) : State :=
  let v := s.sampleAnswer
  let s := { sampleInput s with portInLo := v }
  driveOutput (zextNibble (lowNibble s.portOut)) s

/-- PORTA_SERVICE_HI (R171): sample into `portInHi`, then drive `portOut >> 4`. -/
def servicePortHi (s : State) : State :=
  let v := s.sampleAnswer
  let s := { sampleInput s with portInHi := v }
  driveOutput (highNibbleShifted s.portOut) s

/-- The port service of a sub-address (41_bus_scheduler.md R142). -/
def servicePort : PortNibble → State → State
  | .lo => servicePortLo
  | .hi => servicePortHi

/-- SET_OUTPUT (R172): the cache only; no pin changes and no event. -/
def storeOutput (b : Byte) (s : State) : State := { s with portOut := b }

/-- GET_INPUT's value (R173). -/
def State.inputByte (s : State) : Byte := portInputByte s.portInHi s.portInLo

/-- PORTA_SERVICE_LO, R170. -/
def execPortaServiceLo (s : State) : Host.Outcome State Fault Refusal := perform s servicePortLo

/-- PORTA_SERVICE_HI, R171. -/
def execPortaServiceHi (s : State) : Host.Outcome State Fault Refusal := perform s servicePortHi

/-- SET_OUTPUT, R172. -/
def execSetOutput (b : Byte) (s : State) : Host.Outcome State Fault Refusal := perform s (storeOutput b)

/-- GET_INPUT, R173: no side effect; the byte is returned. -/
def execGetInput (s : State) : Host.Outcome State Fault Refusal := perform s fun s => s.answer (.byte s.inputByte)

end Sys2Proof.Machine
end

