-- ==== Sys2Proof/Machine/Receiver.lean ====
section
/-! DEFINITION. The receive state machine, dispatch, the handler's run and the send call (45_receiver.md R230 to R245), and
the rows of spec/opcode_table.json that name its transitions (RX_BYTE.*), whole frames (FRAME.*) and requests by opcode
(APP.*). -/

namespace Sys2Proof.Machine

/-- SEND_RESPONSE (R241): the whole frame at once, or the fault of ENCODE_RESPONSE with nothing sent. -/
def sendResponse (opcode status : Byte) (payload : List Byte) (n : Nat) (s : State) : State :=
  match encodeResponseBytes opcode status payload n with
  | .ok f => s.send f
  | .error r => s.raise r

/-- REGISTER_HANDLER (R242). -/
def registerHandler (h : Handler) (s : State) : State := { s with handler := some h }

/-- What a handler sees of an encode; one that raised its fault returns nothing. -/
def encodeReply : Except Fault (List Byte) → Reply
  | .ok f => .ofResult (.frame f)
  | .error _ => .none

/-- What a handler sees of VALIDATE: its bool, never the reason (44_frame_codec.md R195). -/
def verdictReply : Except Fault Verdict → Reply
  | .ok v => .ofResult (.verdict v)
  | .error _ => .none

/-- Raise the fault of a codec call, if it has one. -/
def State.raiseOf {α : Type} (s : State) : Except Fault α → State
  | .ok _ => s
  | .error r => s.raise r

/-- What one call of a handler does to the block (R239). -/
def callEffect (x : HandlerView) (k : HandlerCall) (s : State) : State :=
  match k with
  | .setOutput b => storeOutput (evalByte x b) s
  | .sendResponse opcode status data n =>
      sendResponse (evalByte x opcode) (evalByte x status) (evalBytes x data) (evalNum x n) s
  | .encodeRequest opcode data n => s.raiseOf (encodeRequestBytes (evalByte x opcode) (evalBytes x data) (evalNum x n))
  | .encodeResponse opcode status data n =>
      s.raiseOf (encodeResponseBytes (evalByte x opcode) (evalByte x status) (evalBytes x data) (evalNum x n))
  | .validate buf total => s.raiseOf (validateBytes (evalBytes x buf) (evalNum x total))
  | .getInput | .readMotorState | .checksum _ | .decode _ | .motion _ => s
  | .tick | .rxByte _ => s.raise .reentrant

/-- What one call of a handler returns to it (R239, R163, R173, R190 to R197). -/
def callReply (x : HandlerView) (k : HandlerCall) (s : State) : Reply :=
  match k with
  | .getInput => .byte s.inputByte
  | .readMotorState => .byte s.motorState
  | .checksum region => .checksum (checksum (evalBytes x region)).1 (checksum (evalBytes x region)).2
  | .encodeRequest opcode data n => encodeReply (encodeRequestBytes (evalByte x opcode) (evalBytes x data) (evalNum x n))
  | .encodeResponse opcode status data n =>
      encodeReply (encodeResponseBytes (evalByte x opcode) (evalByte x status) (evalBytes x data) (evalNum x n))
  | .validate buf total => verdictReply (validateBytes (evalBytes x buf) (evalNum x total))
  | .decode frame => .decoded (decodeBytes (evalBytes x frame))
  | .setOutput _ | .sendResponse _ _ _ _ | .motion _ | .tick | .rxByte _ => .none

/-- A handler's run (R239): its calls in order, each under its condition; a fault one of them raises ends it (R275). -/
def runHandler : Handler → HandlerView → State → State
  | .done, _, s => s
  | .call c k rest, x, s =>
      if evalCond x c then
        (callEffect x k s).andThen (runHandler rest { x with replies := x.replies ++ [callReply x k s] })
      else runHandler rest x s
  | .register c h rest, x, s =>
      if evalCond x c then runHandler rest { x with replies := x.replies ++ [.none] } (registerHandler h s)
      else runHandler rest x s

/-- A request handed to the registered handler (R238): the event, then the call; with no handler, nothing (D12). -/
def handRequest (op len : Byte) (payload : List Byte) (s : State) : State :=
  match s.handler with
  | none => s
  | some h =>
      runHandler h { op := op, len := len, payload := payload, run := s.handlerRuns, replies := [] }
        (s.emit (.dispatch op len payload)).handlerEntered

/-- DISPATCH (R238): only a Request reaches the handler; the payload is a copy of `buf[4 .. rxLen+2]` (D25). A payload that
would run past offset 31 does not exist (20_memory.md R60; log 13). -/
def dispatch (s : State) : State :=
  if s.buf.read 1 = typeRequest ∧ s.handler.isSome then
    if 4 + dataCount s.rxLen ≤ bufferSize then handRequest (s.buf.read 3) s.rxLen (s.buf.slice 4 (dataCount s.rxLen)) s
    else s.raise (.bufferRange (3 + dataCount s.rxLen))
  else s

/-- Back to Sentinel with no byte stored (R236). -/
def toSentinel (s : State) : State := { s with rxState := .sentinel, pos := 0 }

/-- RX_BYTE in state Sentinel (R231). -/
def rxInSentinel (b : Byte) (s : State) : State :=
  if b = sentinelByte then (s.bufWrite 0 b).andThen fun s => { s with pos := 1, rxState := .typeByte }
  else { s with rxCause := some .staySentinel }

/-- After a fallback: the byte is used up, or under RESYNC_REEXAMINE a 0xAA starts a frame (R232, R233, D11). -/
def reexamine (b : Byte) (s : State) : State :=
  if s.params.resyncReexamine ∧ b = sentinelByte then rxInSentinel b s else s

/-- RX_BYTE in state TypeByte (R232). -/
def rxInTypeByte (b : Byte) (s : State) : State :=
  if b = typeRequest ∨ b = typeResponse then
    (s.bufWrite 1 b).andThen fun s => { s with pos := 2, rxState := .lengthByte }
  else reexamine b (s.discard .badType)

/-- RX_BYTE in state LengthByte (R233): LEN_MIN 1 and LEN_MAX 27. -/
def rxInLengthByte (b : Byte) (s : State) : State :=
  if 1 ≤ b.toNat ∧ b.toNat ≤ 27 then
    (s.bufWrite 2 b).andThen fun s => { s with rxLen := b, pos := 3, rxState := .opCodeByte }
  else reexamine b (s.discard .badLength)

/-- RX_BYTE in state OpCodeByte (R234): every byte is accepted. -/
def rxInOpCodeByte (b : Byte) (s : State) : State :=
  (s.bufWrite 3 b).andThen fun s =>
    { s with pos := 4, rxState := if 1 < s.rxLen.toNat then .dataBytes else .checksumBytes }

/-- RX_BYTE in state DataBytes (R235). -/
def rxInDataBytes (b : Byte) (s : State) : State :=
  (s.bufWrite s.pos b).andThen fun s =>
    { s with pos := s.pos + 1, rxState := if s.pos + 1 = s.rxLen.toNat + 3 then .checksumBytes else s.rxState }

/-- The completion of a frame (R236): the checksum of `buf[0 .. T−3]` against `buf[T−2]` and `buf[T−1]`; DISPATCH or discard;
then Sentinel (D36), unless the handler raised a fault, which leaves no further step (R275; log 15). -/
def completeFrame (s : State) : State :=
  let total := totalLength s.rxLen
  let good := checksum (s.buf.slice 0 (total - 2)) = (s.buf.read (total - 2), s.buf.read (total - 1))
  (if good then dispatch s else s.discard .badChecksum).andThen toSentinel

/-- RX_BYTE in state ChecksumBytes (R236). -/
def rxInChecksumBytes (b : Byte) (s : State) : State :=
  (s.bufWrite s.pos b).andThen fun s =>
    let s := { s with pos := s.pos + 1 }
    if s.pos = totalLength s.rxLen then completeFrame s else s

/-- The rule of a receiver state applied to a byte (R230's table). The cause code of the last byte goes first (log 20). -/
def rxRule (st : RxState) (b : Byte) (s : State) : State :=
  let s := { s with rxCause := none }
  match st with
  | .sentinel => rxInSentinel b s
  | .typeByte => rxInTypeByte b s
  | .lengthByte => rxInLengthByte b s
  | .opCodeByte => rxInOpCodeByte b s
  | .dataBytes => rxInDataBytes b s
  | .checksumBytes => rxInChecksumBytes b s

/-- RX_BYTE (R230): the rule of `rxState`. -/
def receive (b : Byte) (s : State) : State := rxRule s.rxState b s

/-- `rxs b0 … bk` and the Loop's service call over the bytes available (30_encoding.md R98, R243): RX_BYTE for each byte in
order, up to a fault. -/
def receiveAll : List Byte → State → State
  | [], s => s
  | b :: rest, s => (receive b s).andThen (receiveAll rest)

/-- A transition of RX_BYTE named by its state: it is the one taken only in that state (R230; log 16). -/
def rxTransition (key : RxState) (b : Byte) (s : State) : Host.Outcome State Fault Refusal :=
  match s.fault with
  | some r => .fault r
  | none => if s.rxState = key then .next (rxRule key b s) else .refused (.rxStateMismatch key s.rxState)

/-- The Length that goes with a request payload (30_encoding.md R86), for a request named by its opcode (log 19). -/
def requestByOpcode (op : Byte) (payload : List Byte) (s : State) : Host.Outcome State Fault Refusal :=
  perform s (handRequest op (requestLength payload.length) payload)

/-- RX_BYTE, R230. -/
def execRxByte (b : Byte) (s : State) : Host.Outcome State Fault Refusal := perform s (receive b)

/-- DISPATCH, R238. -/
def execDispatch (s : State) : Host.Outcome State Fault Refusal := perform s dispatch

/-- SEND_RESPONSE, R241. -/
def execSendResponse (opcode status : Byte) (payload : List Byte) (n : Nat) (s : State) :
    Host.Outcome State Fault Refusal :=
  perform s (sendResponse opcode status payload n)

/-- REGISTER_HANDLER, R242. -/
def execRegisterHandler (h : Handler) (s : State) : Host.Outcome State Fault Refusal := perform s (registerHandler h)

/-- RX_BYTE.Sentinel, R231. -/
def execRxSentinel (b : Byte) (s : State) : Host.Outcome State Fault Refusal := rxTransition .sentinel b s

/-- RX_BYTE.TypeByte, R232. -/
def execRxTypeByte (b : Byte) (s : State) : Host.Outcome State Fault Refusal := rxTransition .typeByte b s

/-- RX_BYTE.LengthByte, R233. -/
def execRxLengthByte (b : Byte) (s : State) : Host.Outcome State Fault Refusal := rxTransition .lengthByte b s

/-- RX_BYTE.OpCodeByte, R234. -/
def execRxOpCodeByte (b : Byte) (s : State) : Host.Outcome State Fault Refusal := rxTransition .opCodeByte b s

/-- RX_BYTE.DataBytes, R235. -/
def execRxDataBytes (b : Byte) (s : State) : Host.Outcome State Fault Refusal := rxTransition .dataBytes b s

/-- RX_BYTE.ChecksumBytes, R236. -/
def execRxChecksumBytes (b : Byte) (s : State) : Host.Outcome State Fault Refusal := rxTransition .checksumBytes b s

/-- FRAME.REQUEST: a frame with header AA 01 arrives (30_encoding.md R84, 45_receiver.md R231 to R238; log 18). -/
def execFrameRequest (len : Byte) (body : List Byte) (s : State) : Host.Outcome State Fault Refusal :=
  perform s (receiveAll (sentinelByte :: typeRequest :: len :: body))

/-- FRAME.RESPONSE: a frame with header AA 02 arrives; accepted and not acted on (R238; log 18). -/
def execFrameResponse (len : Byte) (body : List Byte) (s : State) : Host.Outcome State Fault Refusal :=
  perform s (receiveAll (sentinelByte :: typeResponse :: len :: body))

end Sys2Proof.Machine
end

