-- ==== Sys2Proof/Machine/AppRequests.lean ====
section
/-! DEFINITION. The sixteen requests of 30_encoding.md R92, each by its opcode (opcode_table.json, rows APP.*): the codec hands
the opcode, the Length and the payload to the registered handler unchanged (45_receiver.md R238). What the handler then
means by the opcode is out of scope (00_scope.md R6). -/

namespace Sys2Proof.Machine

/-- Ping, opcode 0x01 (R92), handed to the handler (R238; log 19). -/
def execAppPing (payload : List Byte) (s : State) : Host.Outcome State Fault Refusal := requestByOpcode 0x01 payload s

/-- Stop, opcode 0x02 (R92), handed to the handler (R238; log 19). -/
def execAppStop (payload : List Byte) (s : State) : Host.Outcome State Fault Refusal := requestByOpcode 0x02 payload s

/-- Disable, opcode 0x03 (R92), handed to the handler (R238; log 19). -/
def execAppDisable (payload : List Byte) (s : State) : Host.Outcome State Fault Refusal := requestByOpcode 0x03 payload s

/-- Enable, opcode 0x04 (R92), handed to the handler (R238; log 19). -/
def execAppEnable (payload : List Byte) (s : State) : Host.Outcome State Fault Refusal := requestByOpcode 0x04 payload s

/-- Clear, opcode 0x05 (R92), handed to the handler (R238; log 19). -/
def execAppClear (payload : List Byte) (s : State) : Host.Outcome State Fault Refusal := requestByOpcode 0x05 payload s

/-- MoveRelative, opcode 0x06 (R92), handed to the handler (R238; log 19). -/
def execAppMoveRelative (payload : List Byte) (s : State) : Host.Outcome State Fault Refusal := requestByOpcode 0x06 payload s

/-- MoveAbsolute, opcode 0x07 (R92), handed to the handler (R238; log 19). -/
def execAppMoveAbsolute (payload : List Byte) (s : State) : Host.Outcome State Fault Refusal := requestByOpcode 0x07 payload s

/-- SetPortA, opcode 0x08 (R92), handed to the handler (R238; log 19). -/
def execAppSetPortA (payload : List Byte) (s : State) : Host.Outcome State Fault Refusal := requestByOpcode 0x08 payload s

/-- GetPortA, opcode 0x09 (R92), handed to the handler (R238; log 19). -/
def execAppGetPortA (payload : List Byte) (s : State) : Host.Outcome State Fault Refusal := requestByOpcode 0x09 payload s

/-- IsMoving, opcode 0x0A (R92), handed to the handler (R238; log 19). -/
def execAppIsMoving (payload : List Byte) (s : State) : Host.Outcome State Fault Refusal := requestByOpcode 0x0A payload s

/-- GetCurrentPosition, opcode 0x0B (R92), handed to the handler (R238; log 19). -/
def execAppGetCurrentPosition (payload : List Byte) (s : State) : Host.Outcome State Fault Refusal := requestByOpcode 0x0B payload s

/-- MoveAtSpeed, opcode 0x0C (R92), handed to the handler (R238; log 19). -/
def execAppMoveAtSpeed (payload : List Byte) (s : State) : Host.Outcome State Fault Refusal := requestByOpcode 0x0C payload s

/-- SetRobotID, opcode 0x0D (R92), handed to the handler (R238; log 19). -/
def execAppSetRobotID (payload : List Byte) (s : State) : Host.Outcome State Fault Refusal := requestByOpcode 0x0D payload s

/-- GetRobotID, opcode 0x0E (R92), handed to the handler (R238; log 19). -/
def execAppGetRobotID (payload : List Byte) (s : State) : Host.Outcome State Fault Refusal := requestByOpcode 0x0E payload s

/-- SavePosition, opcode 0x0F (R92), handed to the handler (R238; log 19). -/
def execAppSavePosition (payload : List Byte) (s : State) : Host.Outcome State Fault Refusal := requestByOpcode 0x0F payload s

/-- LoadPosition, opcode 0x10 (R92), handed to the handler (R238; log 19). -/
def execAppLoadPosition (payload : List Byte) (s : State) : Host.Outcome State Fault Refusal := requestByOpcode 0x10 payload s

end Sys2Proof.Machine
end

