-- ==== Sys2Proof/Machine/AxisSlot.lean ====
section
/-! DEFINITION. The axis slot's calls of the actuators and the moving flags (42_axis_slot.md R160 to R164). -/

namespace Sys2Proof.Machine

/-- The two actuator calls of a re-enable, in order (R160). -/
def reenableCalls (i : Axis) (s : State) : State := (s.emit (.axDisable i)).emit (.axEnable i)

/-- AXIS_REENABLE (R160). The flag is asked for only under REENABLE_GATED (10_state.md R42, D19). -/
def reenable (i : Axis) (s : State) : State :=
  if s.params.reenableGated then
    (if s.enabledAnswer then reenableCalls i s.enabledTaken else s.enabledTaken)
  else reenableCalls i s

/-- SERVICE_AXIS (R161): the result goes to the axis's moving flag and the lines hold what the actuator left. -/
def service (i : Axis) (s : State) : State :=
  let (r, v) := s.serviceAnswer i
  let s := s.serviceTaken
  { s with motorState := setMoving s.motorState i r, dout := v }.emit (.axService i r v)

/-- AXIS_REENABLE, R160. -/
def execAxisReenable (i : Axis) (s : State) : Host.Outcome State Fault Refusal := perform s (reenable i)

/-- SERVICE_AXIS, R161. -/
def execServiceAxis (i : Axis) (s : State) : Host.Outcome State Fault Refusal := perform s (service i)

/-- READ_MOTOR_STATE, R163: no side effect; the byte is returned. -/
def execReadMotorState (s : State) : Host.Outcome State Fault Refusal :=
  perform s fun s => s.answer (.byte s.motorState)

end Sys2Proof.Machine
end

