-- ==== Sys2Proof/Machine/BusScheduler.lean ====
section
/-! DEFINITION. The round-robin arbiter (41_bus_scheduler.md R140 to R147) and the slots of the eight bus addresses
(20_memory.md R61; opcode_table.json, rows SLOT.*). The order select, service, strobe is fixed (70_reset_and_hazards.md
R310). -/

namespace Sys2Proof.Machine

/-- AXIS_SLOT (R141): re-enable, select, service, write strobe. No read strobe (90_conflicts.md C10). -/
def axisSlot (i : Axis) (s : State) : State := pulseWrite (service i (driveAddress (axisAddress i) (reenable i s)))

/-- PORT_SLOT (R142): select, sample and drive, write strobe, read strobe. -/
def portSlot (k : PortNibble) (s : State) : State := pulseRead (pulseWrite (servicePort k (driveAddress k.address s)))

/-- The slot of the device at an address (R140, 20_memory.md R61). -/
def slotAt : Device → State → State
  | .axis i => axisSlot i
  | .portA k => portSlot k

/-- TICK (R140): the slot of `idx`, then `idx <- (idx + 1) mod 8` (R143). -/
def tick (s : State) : State := { slotAt (deviceAt s.idx) s with idx := s.idx + 1 }

/-- TICK, R140. -/
def execTick (s : State) : Host.Outcome State Fault Refusal := perform s tick

/-- AXIS_SLOT, R141. -/
def execAxisSlot (i : Axis) (s : State) : Host.Outcome State Fault Refusal := perform s (axisSlot i)

/-- PORT_SLOT, R142. -/
def execPortSlot (k : PortNibble) (s : State) : Host.Outcome State Fault Refusal := perform s (portSlot k)

/-- The slot of bus address 0, axis 0, base (R141). -/
def execSlotAxis0 (s : State) : Host.Outcome State Fault Refusal := perform s (slotAt (deviceAt 0))

/-- The slot of bus address 1, axis 1, shoulder (R141). -/
def execSlotAxis1 (s : State) : Host.Outcome State Fault Refusal := perform s (slotAt (deviceAt 1))

/-- The slot of bus address 2, axis 2, elbow (R141). -/
def execSlotAxis2 (s : State) : Host.Outcome State Fault Refusal := perform s (slotAt (deviceAt 2))

/-- The slot of bus address 3, axis 3, left differential (R141). -/
def execSlotAxis3 (s : State) : Host.Outcome State Fault Refusal := perform s (slotAt (deviceAt 3))

/-- The slot of bus address 4, axis 4, right differential (R141). -/
def execSlotAxis4 (s : State) : Host.Outcome State Fault Refusal := perform s (slotAt (deviceAt 4))

/-- The slot of bus address 5, axis 5, gripper (R141). -/
def execSlotAxis5 (s : State) : Host.Outcome State Fault Refusal := perform s (slotAt (deviceAt 5))

/-- The slot of bus address 6, Port A low nibble (R142). -/
def execSlotPortaLo (s : State) : Host.Outcome State Fault Refusal := perform s (slotAt (deviceAt 6))

/-- The slot of bus address 7, Port A high nibble (R142). -/
def execSlotPortaHi (s : State) : Host.Outcome State Fault Refusal := perform s (slotAt (deviceAt 7))

end Sys2Proof.Machine
end

