-- ==== Sys2Proof/Machine/Dispatch.lean ====
section
/-! DEFINITION. The dispatch: one arm per instruction, each one direct call of its meaning. -/

namespace Sys2Proof.Machine

def exec (i : Instr) (s : State) : Host.Outcome State Fault Refusal :=
  match i with
  | .select address => Sys2Proof.Machine.execSelect address s
  | .strobeWrite => Sys2Proof.Machine.execStrobeWrite s
  | .strobeRead => Sys2Proof.Machine.execStrobeRead s
  | .readInputNibble => Sys2Proof.Machine.execReadInputNibble s
  | .writeOutputNibble value => Sys2Proof.Machine.execWriteOutputNibble value s
  | .tick => Sys2Proof.Machine.execTick s
  | .axisSlot k => Sys2Proof.Machine.execAxisSlot k s
  | .portSlot k => Sys2Proof.Machine.execPortSlot k s
  | .axisReenable k => Sys2Proof.Machine.execAxisReenable k s
  | .serviceAxis k => Sys2Proof.Machine.execServiceAxis k s
  | .readMotorState => Sys2Proof.Machine.execReadMotorState s
  | .portaServiceLo => Sys2Proof.Machine.execPortaServiceLo s
  | .portaServiceHi => Sys2Proof.Machine.execPortaServiceHi s
  | .setOutput b => Sys2Proof.Machine.execSetOutput b s
  | .getInput => Sys2Proof.Machine.execGetInput s
  | .checksum region => Sys2Proof.Machine.execChecksum region s
  | .encodeRequest opcode payload n => Sys2Proof.Machine.execEncodeRequest opcode payload n s
  | .encodeResponse opcode status payload n => Sys2Proof.Machine.execEncodeResponse opcode status payload n s
  | .validate buf total => Sys2Proof.Machine.execValidate buf total s
  | .decodeFrame frame => Sys2Proof.Machine.execDecodeFrame frame s
  | .rxByte b => Sys2Proof.Machine.execRxByte b s
  | .dispatch => Sys2Proof.Machine.execDispatch s
  | .sendResponse opcode status payload n => Sys2Proof.Machine.execSendResponse opcode status payload n s
  | .registerHandler h => Sys2Proof.Machine.execRegisterHandler h s
  | .rxSentinel b => Sys2Proof.Machine.execRxSentinel b s
  | .rxTypeByte b => Sys2Proof.Machine.execRxTypeByte b s
  | .rxLengthByte b => Sys2Proof.Machine.execRxLengthByte b s
  | .rxOpCodeByte b => Sys2Proof.Machine.execRxOpCodeByte b s
  | .rxDataBytes b => Sys2Proof.Machine.execRxDataBytes b s
  | .rxChecksumBytes b => Sys2Proof.Machine.execRxChecksumBytes b s
  | .slotAxis0 => Sys2Proof.Machine.execSlotAxis0 s
  | .slotAxis1 => Sys2Proof.Machine.execSlotAxis1 s
  | .slotAxis2 => Sys2Proof.Machine.execSlotAxis2 s
  | .slotAxis3 => Sys2Proof.Machine.execSlotAxis3 s
  | .slotAxis4 => Sys2Proof.Machine.execSlotAxis4 s
  | .slotAxis5 => Sys2Proof.Machine.execSlotAxis5 s
  | .slotPortaLo => Sys2Proof.Machine.execSlotPortaLo s
  | .slotPortaHi => Sys2Proof.Machine.execSlotPortaHi s
  | .frameRequest len body => Sys2Proof.Machine.execFrameRequest len body s
  | .frameResponse len body => Sys2Proof.Machine.execFrameResponse len body s
  | .appPing payload => Sys2Proof.Machine.execAppPing payload s
  | .appStop payload => Sys2Proof.Machine.execAppStop payload s
  | .appDisable payload => Sys2Proof.Machine.execAppDisable payload s
  | .appEnable payload => Sys2Proof.Machine.execAppEnable payload s
  | .appClear payload => Sys2Proof.Machine.execAppClear payload s
  | .appMoveRelative payload => Sys2Proof.Machine.execAppMoveRelative payload s
  | .appMoveAbsolute payload => Sys2Proof.Machine.execAppMoveAbsolute payload s
  | .appSetPortA payload => Sys2Proof.Machine.execAppSetPortA payload s
  | .appGetPortA payload => Sys2Proof.Machine.execAppGetPortA payload s
  | .appIsMoving payload => Sys2Proof.Machine.execAppIsMoving payload s
  | .appGetCurrentPosition payload => Sys2Proof.Machine.execAppGetCurrentPosition payload s
  | .appMoveAtSpeed payload => Sys2Proof.Machine.execAppMoveAtSpeed payload s
  | .appSetRobotID payload => Sys2Proof.Machine.execAppSetRobotID payload s
  | .appGetRobotID payload => Sys2Proof.Machine.execAppGetRobotID payload s
  | .appSavePosition payload => Sys2Proof.Machine.execAppSavePosition payload s
  | .appLoadPosition payload => Sys2Proof.Machine.execAppLoadPosition payload s

end Sys2Proof.Machine
end

