-- ==== Sys2Proof/Machine/Step.lean ====
section
/-! DEFINITION. One step of the machine (10_state.md R20): the next operation of the agenda is decoded and performed. -/

namespace Sys2Proof.Machine

/-- The state with the next operation taken from the agenda. -/
def State.advance (s : State) : State := { s with agenda := s.agenda.tail }

/-- One step. With the fault mark set there is none (10_state.md R35). With nothing on the agenda no operation is called, and
nothing changes (R43; log 1). Otherwise the next entry is taken and decoded: refused by the decoder's name, or performed. -/
def step (s : State) : Host.Outcome State Fault Refusal :=
  match s.fault with
  | some r => .fault r
  | none =>
      match s.agenda with
      | [] => .next s
      | e :: _ =>
          match decode e with
          | .error d => .refused (.undecodable d)
          | .ok i => exec i s.advance

/-- The receiver state an entry's key names, for an entry of the receiver's key space. -/
def keyState (e : Entry) : Option RxState :=
  match decode e with
  | .ok (.rxSentinel _) => some .sentinel
  | .ok (.rxTypeByte _) => some .typeByte
  | .ok (.rxLengthByte _) => some .lengthByte
  | .ok (.rxOpCodeByte _) => some .opCodeByte
  | .ok (.rxDataBytes _) => some .dataBytes
  | .ok (.rxChecksumBytes _) => some .checksumBytes
  | _ => none

/-- `s` with a bare word of the table next on the agenda (log 1). A receiver key selects its transition by `rxState`, so for
one the receiver is put into the state the key names (log 4). -/
def State.withFetchWord (s : State) (nbits w : Nat) : State :=
  let e := tableEntry nbits w
  match keyState e with
  | none => { s with agenda := e :: s.agenda }
  | some st => { s with agenda := e :: s.agenda, rxState := st }

end Sys2Proof.Machine
end

