-- ==== Sys2Proof/Machine/JointPosition.lean ====
section
/-! DEFINITION. The JointPosition payload (30_encoding.md R93, 20_memory.md R64): twelve signed 16-bit fields in fixed order,
little-endian (D23). Only the application reads it; the codec copies payload bytes as they are (R94). -/

namespace Sys2Proof.Machine

/-- One joint's pair of fields, "each as position then speed" (R93). -/
structure JointFields where
  position : Half
  speed    : Half
deriving DecidableEq, Repr

/-- The six joints in the order of R93. -/
structure JointPosition where
  base      : JointFields
  shoulder  : JointFields
  elbow     : JointFields
  leftDiff  : JointFields
  rightDiff : JointFields
  gripper   : JointFields
deriving DecidableEq, Repr

/-- A 16-bit field, low byte first (R93, D23). -/
def halfBytes (h : Half) : List Byte := [lowByte h, highByte h]

/-- `payload[2k+1], payload[2k]` (30_encoding.md R99). -/
def halfAt (payload : List Byte) (k : Nat) : Half := joinBytes (byteAt payload (2 * k + 1)) (byteAt payload (2 * k))

/-- One joint's four bytes. -/
def jointBytes (j : JointFields) : List Byte := halfBytes j.position ++ halfBytes j.speed

/-- One joint from its two fields `k` and `k + 1`. -/
def jointAt (payload : List Byte) (k : Nat) : JointFields :=
  { position := halfAt payload k, speed := halfAt payload (k + 1) }

/-- The 24 payload bytes (R93). -/
def jointPayload (p : JointPosition) : List Byte :=
  jointBytes p.base ++ jointBytes p.shoulder ++ jointBytes p.elbow ++ jointBytes p.leftDiff ++ jointBytes p.rightDiff
    ++ jointBytes p.gripper

/-- A JointPosition from 24 payload bytes (R93). -/
def jointOfPayload (payload : List Byte) : Option JointPosition :=
  if payload.length = 24 then
    some { base := jointAt payload 0, shoulder := jointAt payload 2, elbow := jointAt payload 4,
           leftDiff := jointAt payload 6, rightDiff := jointAt payload 8, gripper := jointAt payload 10 }
  else none

end Sys2Proof.Machine
end

