-- ==== Sys2Proof/Machine/Program.lean ====
section
/-! DEFINITION. Programs of operations (30_encoding.md R98): a list of instructions performed one after the other, and what of
the event trace the scheduler's rules speak about. -/

namespace Sys2Proof.Machine

/-- Perform the instructions in order, up to a fault or a refusal. -/
def runInstrs : List Instr → State → Host.Outcome State Fault Refusal
  | [], s => .next s
  | i :: rest, s =>
      match exec i s with
      | .next t => runInstrs rest t
      | .fault r => .fault r
      | .refused r => .refused r

/-- `ticks k` (R98). -/
def ticks (k : Nat) : List Instr := List.replicate k .tick

/-- `rxs b0 … bk` (R98). -/
def rxs (bytes : List Byte) : List Instr := bytes.map .rxByte

/-- The address an event selects, if it is a `Sel` (10_state.md R40). -/
def selectedBy : Event → Option BusAddress
  | .sel a => some a
  | _ => none

/-- The addresses a trace selects, in order (41_bus_scheduler.md R145, R146). -/
def selections (trace : List Event) : List BusAddress := trace.filterMap selectedBy

/-- Whether an event is a write pulse at this address (43_port_a.md R174). -/
def isWritePulseAt (a : BusAddress) : Event → Bool
  | .pulseW b _ => b == a
  | _ => false

end Sys2Proof.Machine
end

