-- ==== Sys2Proof/Safety.lean ====
section
/-! DEFINITION. The terms of the claims: the receiver invariants of 10_state.md R36, the invariant of the whole state, and the
classes of operations the spec speaks of (10_state.md R38, R43). -/

namespace Sys2Proof.Machine

/-- The table of 10_state.md R36. -/
def receiverShape (s : State) : Bool :=
  match s.rxState with
  | .sentinel => s.pos == 0
  | .typeByte => s.pos == 1
  | .lengthByte => s.pos == 2
  | .opCodeByte => s.pos == 3 && decide (1 ≤ s.rxLen.toNat ∧ s.rxLen.toNat ≤ 27)
  | .dataBytes =>
      decide (4 ≤ s.pos ∧ s.pos ≤ s.rxLen.toNat + 2) && decide (2 ≤ s.rxLen.toNat ∧ s.rxLen.toNat ≤ 27)
  | .checksumBytes =>
      (s.pos == s.rxLen.toNat + 3 || s.pos == s.rxLen.toNat + 4) &&
        decide (1 ≤ s.rxLen.toNat ∧ s.rxLen.toNat ≤ 27)

/-- The part of the frame already stored passes the checks the receiver has made (45_receiver.md R237): the sentinel, the type,
and `rxLen` equal to `buf[2]` (10_state.md R32). -/
def headerStored (s : State) : Bool :=
  (decide (s.pos < 1) || s.buf.read 0 == sentinelByte) &&
  (decide (s.pos < 2) || s.buf.read 1 == typeRequest || s.buf.read 1 == typeResponse) &&
  (decide (s.pos < 3) || s.buf.read 2 == s.rxLen)

/-- The invariant between steps: the strobes idle high (10_state.md R24), the buffer in canonical form, and, with no fault, the
receiver's table (R36) and its stored header (R32, 45_receiver.md R237). -/
abbrev State.Inv (s : State) : Prop :=
  s.nIOW = true ∧ s.nIOR = true ∧ s.buf.wf = true ∧
    (s.fault = none → receiverShape s = true ∧ headerStored s = true)

/-- The operations of the receive path: RX_BYTE, its transitions, and whole frames. -/
def receives : Instr → Bool
  | .rxByte _ | .rxSentinel _ | .rxTypeByte _ | .rxLengthByte _ | .rxOpCodeByte _ | .rxDataBytes _ | .rxChecksumBytes _
  | .frameRequest _ _ | .frameResponse _ _ => true
  | .select _ | .strobeWrite | .strobeRead | .readInputNibble | .writeOutputNibble _ | .tick | .axisSlot _ | .portSlot _
  | .axisReenable _ | .serviceAxis _ | .readMotorState | .portaServiceLo | .portaServiceHi | .setOutput _ | .getInput
  | .checksum _ | .encodeRequest _ _ _ | .encodeResponse _ _ _ _ | .validate _ _ | .decodeFrame _ | .dispatch
  | .sendResponse _ _ _ _ | .registerHandler _ | .slotAxis0 | .slotAxis1 | .slotAxis2 | .slotAxis3 | .slotAxis4
  | .slotAxis5 | .slotPortaLo | .slotPortaHi | .appPing _ | .appStop _ | .appDisable _ | .appEnable _ | .appClear _
  | .appMoveRelative _ | .appMoveAbsolute _ | .appSetPortA _ | .appGetPortA _ | .appIsMoving _ | .appGetCurrentPosition _
  | .appMoveAtSpeed _ | .appSetRobotID _ | .appGetRobotID _ | .appSavePosition _ | .appLoadPosition _ => false

/-- The operations of the bus path: the AddressBus layer, the slots and their parts, and TICK (20_memory.md R60: "Only TICK
reaches it", through these). -/
def drivesBus : Instr → Bool
  | .select _ | .strobeWrite | .strobeRead | .readInputNibble | .writeOutputNibble _ | .tick | .axisSlot _ | .portSlot _
  | .axisReenable _ | .serviceAxis _ | .portaServiceLo | .portaServiceHi | .slotAxis0 | .slotAxis1 | .slotAxis2 | .slotAxis3
  | .slotAxis4 | .slotAxis5 | .slotPortaLo | .slotPortaHi => true
  | .readMotorState | .setOutput _ | .getInput
  | .checksum _ | .encodeRequest _ _ _ | .encodeResponse _ _ _ _ | .validate _ _ | .decodeFrame _ | .rxByte _ | .dispatch
  | .sendResponse _ _ _ _ | .registerHandler _ | .rxSentinel _ | .rxTypeByte _ | .rxLengthByte _ | .rxOpCodeByte _
  | .rxDataBytes _ | .rxChecksumBytes _ | .frameRequest _ _ | .frameResponse _ _ | .appPing _ | .appStop _ | .appDisable _
  | .appEnable _ | .appClear _ | .appMoveRelative _ | .appMoveAbsolute _ | .appSetPortA _ | .appGetPortA _ | .appIsMoving _
  | .appGetCurrentPosition _ | .appMoveAtSpeed _ | .appSetRobotID _ | .appGetRobotID _ | .appSavePosition _
  | .appLoadPosition _ => false

/-- The receiver state a transition's key names (opcode_table.json, rows RX_BYTE.*); `none` for every other instruction. -/
def transitionKey : Instr → Option RxState
  | .rxSentinel _ => some .sentinel
  | .rxTypeByte _ => some .typeByte
  | .rxLengthByte _ => some .lengthByte
  | .rxOpCodeByte _ => some .opCodeByte
  | .rxDataBytes _ => some .dataBytes
  | .rxChecksumBytes _ => some .checksumBytes
  | .select _ | .strobeWrite | .strobeRead | .readInputNibble | .writeOutputNibble _ | .tick | .axisSlot _ | .portSlot _
  | .axisReenable _ | .serviceAxis _ | .readMotorState | .portaServiceLo | .portaServiceHi | .setOutput _ | .getInput
  | .checksum _ | .encodeRequest _ _ _ | .encodeResponse _ _ _ _ | .validate _ _ | .decodeFrame _ | .rxByte _ | .dispatch
  | .sendResponse _ _ _ _ | .registerHandler _ | .slotAxis0 | .slotAxis1 | .slotAxis2 | .slotAxis3 | .slotAxis4
  | .slotAxis5 | .slotPortaLo | .slotPortaHi | .frameRequest _ _ | .frameResponse _ _ | .appPing _ | .appStop _
  | .appDisable _ | .appEnable _ | .appClear _ | .appMoveRelative _ | .appMoveAbsolute _ | .appSetPortA _ | .appGetPortA _
  | .appIsMoving _ | .appGetCurrentPosition _ | .appMoveAtSpeed _ | .appSetRobotID _ | .appGetRobotID _ | .appSavePosition _
  | .appLoadPosition _ => none

/-- The operation that a handler's call performs, with its operands computed (45_receiver.md R239); `none` for a call of the
motion API, which is no operation of the block, and for TICK and RX_BYTE, which a handler may not call. -/
def callOperation (x : HandlerView) : HandlerCall → Option Instr
  | .setOutput b => some (.setOutput (evalByte x b))
  | .getInput => some .getInput
  | .readMotorState => some .readMotorState
  | .sendResponse opcode status data n =>
      some (.sendResponse (evalByte x opcode) (evalByte x status) (evalBytes x data) (evalNum x n))
  | .checksum region => some (.checksum (evalBytes x region))
  | .encodeRequest opcode data n => some (.encodeRequest (evalByte x opcode) (evalBytes x data) (evalNum x n))
  | .encodeResponse opcode status data n =>
      some (.encodeResponse (evalByte x opcode) (evalByte x status) (evalBytes x data) (evalNum x n))
  | .validate buf total => some (.validate (evalBytes x buf) (evalNum x total))
  | .decode frame => some (.decodeFrame (evalBytes x frame))
  | .motion _ | .tick | .rxByte _ => none

/-- The requests by opcode, each with its opcode (30_encoding.md R92). -/
def namedRequests : List ((List Byte → Instr) × Byte) :=
  [(.appPing, 0x01), (.appStop, 0x02), (.appDisable, 0x03), (.appEnable, 0x04), (.appClear, 0x05), (.appMoveRelative, 0x06),
   (.appMoveAbsolute, 0x07), (.appSetPortA, 0x08), (.appGetPortA, 0x09), (.appIsMoving, 0x0A), (.appGetCurrentPosition, 0x0B),
   (.appMoveAtSpeed, 0x0C), (.appSetRobotID, 0x0D), (.appGetRobotID, 0x0E), (.appSavePosition, 0x0F), (.appLoadPosition, 0x10)]

/-- The rows SLOT.AXIS0 to SLOT.AXIS5, each with its axis (20_memory.md R61). -/
def axisSlotRows : List (Instr × Axis) :=
  [(.slotAxis0, 0), (.slotAxis1, 1), (.slotAxis2, 2), (.slotAxis3, 3), (.slotAxis4, 4), (.slotAxis5, 5)]

/-- The rows SLOT.PORTA_LO and SLOT.PORTA_HI (20_memory.md R61). -/
def portSlotRows : List (Instr × PortNibble) := [(.slotPortaLo, .lo), (.slotPortaHi, .hi)]

end Sys2Proof.Machine
end

