-- ==== Sys2Proof/Certificates/Slice0/Obligations.lean ====
section
/-! DEFINITION. The statements for the provers. -/

open Sys2Proof Sys2Proof.Machine

/-! ### Encoding -/

/-- Every well-formed instruction decodes from its encoding (30_encoding.md R81, R84, R92, R97). -/
def Obligations.DecodeOfEncodeIsIdentity : Prop :=
  ∀ i : Instr, i.wellFormed = true → decode (encode i) = .ok i

/-- What the decoder accepts is well formed, and the encoder writes its space and its word again: each word has one meaning. -/
def Obligations.DecodedEntryIsWellFormedAndRestored : Prop :=
  ∀ (e : Entry) (i : Instr), decode e = .ok i →
    i.wellFormed = true ∧ (encode i).space = e.space ∧ (encode i).word = e.word

/-- Words written out from the tables of 30_encoding.md decode to the instructions they stand for. -/
def Obligations.WordsDecodeAsTabled : Prop :=
  decode { space := .opWord, word := 0x0107, fields := .zero } = .ok (.select 7) ∧
  decode { space := .opWord, word := 0x05AB, fields := .zero } = .ok (.writeOutputNibble 0xAB) ∧
  decode { space := .opWord, word := 0x1000, fields := .zero } = .ok .tick ∧
  decode { space := .opWord, word := 0x1105, fields := .zero } = .ok (.axisSlot 5) ∧
  decode { space := .opWord, word := 0x1207, fields := .zero } = .ok (.portSlot .hi) ∧
  decode { space := .opWord, word := 0x2006, fields := .zero } = .ok .portaServiceLo ∧
  decode { space := .opWord, word := 0x223C, fields := .zero } = .ok (.setOutput 0x3C) ∧
  decode { space := .opWord, word := 0x3108, fields := { TermFields.zero with bytes := [0xAB], n := 1 } } =
    .ok (.encodeRequest 0x08 [0xAB] 1) ∧
  decode { space := .opWord, word := 0x4709, fields := { TermFields.zero with bytes := [0x5A], n := 1 } } =
    .ok (.sendResponse 0x09 0x00 [0x5A] 1) ∧
  decode { space := .opWord, word := 0x40AA, fields := .zero } = .ok (.rxByte 0xAA) ∧
  decode { space := .rxKey, word := 0x041B, fields := .zero } = .ok (.rxDataBytes 0x1B) ∧
  decode { space := .busAddress, word := 6, fields := .zero } = .ok .slotPortaLo ∧
  decode { space := .frameHeader, word := 0xAA02, fields := { TermFields.zero with bytes := [0x01, 0xAB, 0x03], n := 1 } } =
    .ok (.frameResponse 1 [0x01, 0xAB, 0x03]) ∧
  decode { space := .requestOpcode, word := 0x10, fields := .zero } = .ok (.appLoadPosition [])

/-- The decoder refuses, by name, a nonzero imm where R97's table says 0, an axis above 5, a sub-address other than 6 or 7, and
an opid the table does not list. -/
def Obligations.DecoderRefusesByName : Prop :=
  (∀ (opid imm : Byte) (f : TermFields),
    opid ∈ ([0x02, 0x03, 0x04, 0x10, 0x1A, 0x23, 0x30, 0x33, 0x34, 0x46, 0x48] : List Byte) → imm ≠ 0 →
    decode { space := .opWord, word := joinBytes opid imm, fields := f } = .error (.illegalImm opid imm)) ∧
  (∀ (opid imm : Byte) (f : TermFields), opid ∈ ([0x11, 0x18, 0x19] : List Byte) → 5 < imm.toNat →
    decode { space := .opWord, word := joinBytes opid imm, fields := f } = .error (.illegalImm opid imm)) ∧
  (∀ (imm : Byte) (f : TermFields), imm ≠ 6 → imm ≠ 7 →
    decode { space := .opWord, word := joinBytes 0x12 imm, fields := f } = .error (.illegalImm 0x12 imm)) ∧
  (∀ (imm : Byte) (f : TermFields), imm ≠ 6 →
    decode { space := .opWord, word := joinBytes 0x20 imm, fields := f } = .error (.illegalImm 0x20 imm)) ∧
  (∀ (imm : Byte) (f : TermFields), imm ≠ 7 →
    decode { space := .opWord, word := joinBytes 0x21 imm, fields := f } = .error (.illegalImm 0x21 imm)) ∧
  (∀ (opid imm : Byte) (f : TermFields),
    opid ∉ ([0x01, 0x02, 0x03, 0x04, 0x05, 0x10, 0x11, 0x12, 0x18, 0x19, 0x1A, 0x20, 0x21, 0x22, 0x23, 0x30, 0x31, 0x32, 0x33,
      0x34, 0x40, 0x46, 0x47, 0x48] : List Byte) →
    decode { space := .opWord, word := joinBytes opid imm, fields := f } = .error (.illegalOpid opid))

/-! ### The step and the whole machine -/

/-- One step takes the next entry off the agenda and runs what it decodes to. With an entry the decoder refuses it is refused
by the decoder's name; with nothing on the agenda nothing changes. The agenda is the model's choice (log 1). -/
def Obligations.StepRunsTheDecodedInstruction : Prop :=
  (∀ (s : State) (e : Entry) (rest : List Entry) (i : Instr), s.fault = none → s.agenda = e :: rest → decode e = .ok i →
    step s = exec i { s with agenda := rest }) ∧
  (∀ (s : State) (e : Entry) (rest : List Entry) (d : DecodeError), s.fault = none → s.agenda = e :: rest →
    decode e = .error d → step s = .refused (.undecodable d)) ∧
  (∀ s : State, s.fault = none → s.agenda = [] → step s = .next s)

/-- Once the fault mark is set, no instruction and no step has a next state (10_state.md R35). -/
def Obligations.FaultMarkStopsEveryOperation : Prop :=
  ∀ (s : State) (r : Fault), s.fault = some r → (∀ i : Instr, exec i s = .fault r) ∧ step s = .fault r

/-- With no fault mark every operation has a next state. 70_reset_and_hazards.md R319 says so of an operation whose
preconditions hold. The rest is the model's choice: an operation that breaks its precondition (SELECT above 7, an encode over
the limit, VALIDATE of a short buffer) has a next state too, with the mark set (log 12), and a row RX_BYTE.<state> has one only
in its own state (log 16). -/
def Obligations.EveryOperationHasAStep : Prop :=
  ∀ (i : Instr) (s : State), s.fault = none → (∀ key, transitionKey i = some key → s.rxState = key) →
    ∃ t, exec i s = .next t

/-- A row RX_BYTE.<state> in another state is refused by name. The model's choice (log 16), from 45_receiver.md R230: "The rule
applied depends on `s.rxState`". -/
def Obligations.TransitionRefusedInAnotherState : Prop :=
  ∀ (i : Instr) (key : RxState) (s : State), s.fault = none → transitionKey i = some key → s.rxState ≠ key →
    exec i s = .refused (.rxStateMismatch key s.rxState)

/-- Only TICK changes `idx`, and it advances it by one, wrapping from 7 to 0 (41_bus_scheduler.md R143). -/
def Obligations.OnlyTickMovesTheIndex : Prop :=
  ∀ (i : Instr) (s t : State), exec i s = .next t → t.idx = if i = .tick then s.idx + 1 else s.idx

/-- An operation off the bus path changes no pin, no sampled nibble and no moving flag and asks the environment nothing; an
operation of the bus path changes no receiver field, nor the handler, the transmit stream or the output cache, and raises no
fault but SELECT's (10_state.md R38, 40_address_bus.md R120, 70_reset_and_hazards.md R318). Of `trace`, `ret` and the fault
mark, which operations of both kinds write, it says no more than that. The draw fields and `rxCause` are the model's (log 10,
log 20). -/
def Obligations.BusPathAndCodecPathAreApart : Prop :=
  (∀ (i : Instr) (s t : State), exec i s = .next t → drivesBus i = false →
    t.a = s.a ∧ t.nIOW = s.nIOW ∧ t.nIOR = s.nIOR ∧ t.dout = s.dout ∧ t.portInLo = s.portInLo ∧ t.portInHi = s.portInHi ∧
    t.motorState = s.motorState ∧ t.answersDI = s.answersDI ∧ t.answersService = s.answersService ∧
    t.answersEnabled = s.answersEnabled ∧ t.drawCount = s.drawCount) ∧
  (∀ (i : Instr) (s t : State), exec i s = .next t → drivesBus i = true →
    t.rxState = s.rxState ∧ t.buf = s.buf ∧ t.pos = s.pos ∧ t.rxLen = s.rxLen ∧ t.rxCause = s.rxCause ∧
    t.handler = s.handler ∧ t.tx = s.tx ∧ t.portOut = s.portOut ∧
    (t.fault = none ∨ ∃ address, i = .select address ∧ t.fault = some (.selectRange address)))

/-- An operation off the receive path leaves the receiver as it is, every byte of its buffer included (45_receiver.md R240,
10_state.md R29 to R32). -/
def Obligations.OnlyTheReceivePathMovesTheReceiver : Prop :=
  ∀ (i : Instr) (s t : State), exec i s = .next t → receives i = false →
    t.rxState = s.rxState ∧ t.pos = s.pos ∧ t.rxLen = s.rxLen ∧ t.rxCause = s.rxCause ∧
    ∀ offset, t.buf.read offset = s.buf.read offset

/-- No event and no sent byte is ever removed, and no operation writes the parameters or the agenda (10_state.md R34, R37, R40). -/
def Obligations.StreamsOnlyGrow : Prop :=
  ∀ (i : Instr) (s t : State), exec i s = .next t →
    s.trace <+: t.trace ∧ s.tx <+: t.tx ∧ t.params = s.params ∧ t.agenda = s.agenda

/-- Bits 7 and 6 of `motorState` are never written (10_state.md R28). -/
def Obligations.MotorStateTopBitsAreKept : Prop :=
  ∀ (i : Instr) (s t : State), exec i s = .next t → t.motorState.extractLsb' 6 2 = s.motorState.extractLsb' 6 2

/-- With no handler to run, a tick and a received byte commute: they share no field (95_test_vectors.md P2; 45_receiver.md
R243). -/
def Obligations.TickAndReceiveCommute : Prop :=
  ∀ (b : Byte) (s : State), s.Inv → s.fault = none → s.handler = none →
    ∃ t, runInstrs [.tick, .rxByte b] s = .next t ∧ runInstrs [.rxByte b, .tick] s = .next t

/-! ### The receive buffer -/

/-- A write to the buffer is what is read back, every other offset reads as before, and two buffers in canonical form that read
the same everywhere are equal (00_scope.md R12, 10_state.md R30). What an offset nothing has written reads as is the model's
choice (log 8) and no clause speaks of it. -/
def Obligations.BufferReadsWhatWasWritten : Prop :=
  (∀ (m : Memory) (i j : Nat) (b : Byte), m.wf = true →
    (m.write i b).read j = if j = i then b else m.read j) ∧
  (∀ m n : Memory, m.wf = true → n.wf = true → (∀ i, m.read i = n.read i) → m = n)

/-! ### AddressBus -/

/-- SELECT (40_address_bus.md R121): an address in 0..7 is driven and recorded; above 7 the fault is raised and nothing is
driven. -/
def Obligations.SelectDrivesOrFaults : Prop :=
  ∀ (address : Byte) (s : State), s.fault = none →
    exec (.select address) s = .next
      (if address.toNat ≤ 7 then
        { s with a := address.extractLsb' 0 3, trace := s.trace ++ [.sel (address.extractLsb' 0 3)] }
       else { s with fault := some (.selectRange address) })

/-- STROBE_WRITE and STROBE_READ (40_address_bus.md R122, R123): the line ends deasserted and one pulse is recorded with the
lines as they stand; nothing is sampled. -/
def Obligations.StrobesPulseOnce : Prop :=
  ∀ s : State, s.fault = none →
    exec .strobeWrite s = .next { s with nIOW := true, trace := s.trace ++ [.pulseW s.a s.dout] } ∧
    exec .strobeRead s = .next { s with nIOR := true, trace := s.trace ++ [.pulseR s.a] }

/-- READ_INPUT_NIBBLE (40_address_bus.md R124, 30_encoding.md R83): the lines' next showing, line DIi in bit i, is recorded and
returned, and one draw is taken; any nibble can be shown. Where the draw comes from is the model's choice (log 10). -/
def Obligations.ReadInputNibbleSamplesTheLines : Prop :=
  (∀ s : State, s.fault = none →
    exec .readInputNibble s = .next
      { s.sampleTaken with trace := s.trace ++ [.sample s.a s.sampleAnswer], ret := .nibble s.sampleAnswer }) ∧
  (∀ (s : State) (l : InputLines) (rest : List InputLines), s.answersDI = l :: rest →
    s.sampleTaken = { s with answersDI := rest } ∧
    s.sampleAnswer.getLsbD 0 = l.di0 ∧ s.sampleAnswer.getLsbD 1 = l.di1 ∧
    s.sampleAnswer.getLsbD 2 = l.di2 ∧ s.sampleAnswer.getLsbD 3 = l.di3) ∧
  (∀ s : State, s.answersDI = [] → s.sampleTaken = { s with drawCount := s.drawCount + 1 }) ∧
  (∀ v : Nibble, ∃ l : InputLines, ∀ s : State, State.sampleAnswer { s with answersDI := [l] } = v)

/-- WRITE_OUTPUT_NIBBLE (40_address_bus.md R125): the low four bits go to the lines and are recorded; bits 7:4 say nothing. -/
def Obligations.WriteOutputNibbleDrivesTheLowBits : Prop :=
  ∀ (value : Byte) (s : State), s.fault = none →
    exec (.writeOutputNibble value) s = .next
      { s with dout := value.extractLsb' 0 4, trace := s.trace ++ [.out (value.extractLsb' 0 4)] }

/-! ### Axis slot and Port A -/

/-- AXIS_REENABLE (42_axis_slot.md R160): disable then enable; under REENABLE_GATED the flag is asked first, and with the flag
clear neither call is made. Where the answer comes from is the model's choice (log 10). -/
def Obligations.AxisReenableDisablesThenEnables : Prop :=
  (∀ (i : Axis) (s : State), s.fault = none → s.params.reenableGated = false →
    exec (.axisReenable i) s = .next { s with trace := s.trace ++ [.axDisable i, .axEnable i] }) ∧
  (∀ (i : Axis) (s : State), s.fault = none → s.params.reenableGated = true →
    exec (.axisReenable i) s = .next
      (if s.enabledAnswer = true then { s.enabledTaken with trace := s.trace ++ [.axDisable i, .axEnable i] }
       else s.enabledTaken)) ∧
  (∀ (s : State) (e : Bool) (rest : List Bool), s.answersEnabled = e :: rest →
    s.enabledAnswer = e ∧ s.enabledTaken = { s with answersEnabled := rest }) ∧
  (∀ s : State, s.answersEnabled = [] → s.enabledTaken = { s with drawCount := s.drawCount + 1 })

/-- SERVICE_AXIS (42_axis_slot.md R161): the result becomes bit i of `motorState` and no other bit changes, the lines hold what
the actuator left, one event records both. Where the draw comes from is the model's choice (log 10). READ_MOTOR_STATE (R163)
returns the byte and changes nothing else. -/
def Obligations.ServiceAxisRecordsItsResult : Prop :=
  (∀ (i : Axis) (s : State), s.fault = none →
    ∃ m : Byte,
      exec (.serviceAxis i) s = .next
        { s.serviceTaken with
          motorState := m
          dout := (s.serviceAnswer i).2
          trace := s.trace ++ [.axService i (s.serviceAnswer i).1 (s.serviceAnswer i).2] } ∧
      ∀ j : Nat, j < 8 → m.getLsbD j = if j = i.val then (s.serviceAnswer i).1 else s.motorState.getLsbD j) ∧
  (∀ (i : Axis) (s : State) (r : Bool) (v : Nibble) (rest : List (Bool × Nibble)), s.answersService = (r, v) :: rest →
    s.serviceAnswer i = (r, v) ∧ s.serviceTaken = { s with answersService := rest }) ∧
  (∀ s : State, s.answersService = [] → s.serviceTaken = { s with drawCount := s.drawCount + 1 }) ∧
  (∀ s : State, s.fault = none → exec .readMotorState s = .next { s with ret := .byte s.motorState })

/-- PORTA_SERVICE_LO and PORTA_SERVICE_HI (43_port_a.md R170, R171): the sample comes first and goes to the nibble's cache,
then the nibble of `portOut` goes to the lines. How the draw is taken is the model's choice (log 10). -/
def Obligations.PortServicesSampleThenDrive : Prop :=
  ∀ s : State, s.fault = none →
    exec .portaServiceLo s = .next
      { s.sampleTaken with
        portInLo := s.sampleAnswer
        dout := s.portOut.extractLsb' 0 4
        trace := s.trace ++ [.sample s.a s.sampleAnswer, .out (s.portOut.extractLsb' 0 4)] } ∧
    exec .portaServiceHi s = .next
      { s.sampleTaken with
        portInHi := s.sampleAnswer
        dout := s.portOut.extractLsb' 4 4
        trace := s.trace ++ [.sample s.a s.sampleAnswer, .out (s.portOut.extractLsb' 4 4)] }

/-- SET_OUTPUT and GET_INPUT (43_port_a.md R172, R173): the cache takes the byte, with no pin changed and no event; the two
cached nibbles are returned as one byte and nothing else changes. -/
def Obligations.PortAccessorsUseTheCache : Prop :=
  (∀ (b : Byte) (s : State), s.fault = none → exec (.setOutput b) s = .next { s with portOut := b }) ∧
  (∀ s : State, s.fault = none → exec .getInput s = .next { s with ret := .byte (s.portInHi ++ s.portInLo) })

/-- The commit latency (43_port_a.md R174): after SET_OUTPUT with `idx = k` the low nibble is strobed at address 6 in tick
number ((6 − k) mod 8) + 1 and at no earlier tick, and the high nibble at address 7 in tick number ((7 − k) mod 8) + 1. -/
def Obligations.OutputReachesTheLatchesInItsSlot : Prop :=
  ∀ (b : Byte) (s : State), s.fault = none →
    (∃ (t : State) (d : List Event),
      runInstrs (.setOutput b :: ticks ((6 - s.idx).toNat + 1)) s = .next t ∧
      t.trace = s.trace ++ d ++ [.out (b.extractLsb' 0 4), .pulseW 6 (b.extractLsb' 0 4), .pulseR 6] ∧
      d.all (fun e => !isWritePulseAt 6 e) = true) ∧
    (∃ (t : State) (d : List Event),
      runInstrs (.setOutput b :: ticks ((7 - s.idx).toNat + 1)) s = .next t ∧
      t.trace = s.trace ++ d ++ [.out (b.extractLsb' 4 4), .pulseW 7 (b.extractLsb' 4 4), .pulseR 7] ∧
      d.all (fun e => !isWritePulseAt 7 e) = true)

/-- A Port A byte is not moved at once (43_port_a.md R175): an output byte changed between the ticks at addresses 6 and 7 leaves
the low nibble of the old byte at address 6 and the high nibble of the new one at address 7, and GET_INPUT combines two nibbles
sampled in two ticks. -/
def Obligations.PortByteIsNotMovedAtomically : Prop :=
  ∀ (x y : Byte) (s : State), s.fault = none → s.idx = 6 →
    ∃ (t : State) (v w : Nibble),
      runInstrs [.setOutput x, .tick, .setOutput y, .tick, .getInput] s = .next t ∧
      t.trace = s.trace ++
        [.sel 6, .sample 6 v, .out (x.extractLsb' 0 4), .pulseW 6 (x.extractLsb' 0 4), .pulseR 6,
         .sel 7, .sample 7 w, .out (y.extractLsb' 4 4), .pulseW 7 (y.extractLsb' 4 4), .pulseR 7] ∧
      t.portInLo = v ∧ t.portInHi = w ∧ t.ret = .byte (w ++ v) ∧ t.idx = 0

/-! ### The scheduler -/

/-- AXIS_SLOT (41_bus_scheduler.md R141): the events in their order, the address, the lines, the flag. `s'` is the state after
the motors-enabled flag was asked, if REENABLE_GATED has it asked. How a draw is taken is the model's choice (log 10). -/
def Obligations.AxisSlotRunsInOrder : Prop :=
  ∀ (i : Axis) (s : State), s.fault = none →
    let s' := if s.params.reenableGated = true then s.enabledTaken else s
    let calls : List Event :=
      if s.params.reenableGated = true ∧ s.enabledAnswer = false then [] else [.axDisable i, .axEnable i]
    let r := (s'.serviceAnswer i).1
    let v := (s'.serviceAnswer i).2
    exec (.axisSlot i) s = .next
      { s'.serviceTaken with
        a := BitVec.ofNat 3 i.val
        nIOW := true
        dout := v
        motorState := setMoving s.motorState i r
        trace := s.trace ++ calls ++
          [.sel (BitVec.ofNat 3 i.val), .axService i r v, .pulseW (BitVec.ofNat 3 i.val) v] }

/-- PORT_SLOT (41_bus_scheduler.md R142): the events in their order, the sampled nibble in its cache, the output nibble on the
lines. How the draw is taken is the model's choice (log 10). -/
def Obligations.PortSlotRunsInOrder : Prop :=
  ∀ s : State, s.fault = none →
    exec (.portSlot .lo) s = .next
      { s.sampleTaken with
        a := 6, nIOW := true, nIOR := true, portInLo := s.sampleAnswer, dout := s.portOut.extractLsb' 0 4
        trace := s.trace ++ [.sel 6, .sample 6 s.sampleAnswer, .out (s.portOut.extractLsb' 0 4),
          .pulseW 6 (s.portOut.extractLsb' 0 4), .pulseR 6] } ∧
    exec (.portSlot .hi) s = .next
      { s.sampleTaken with
        a := 7, nIOW := true, nIOR := true, portInHi := s.sampleAnswer, dout := s.portOut.extractLsb' 4 4
        trace := s.trace ++ [.sel 7, .sample 7 s.sampleAnswer, .out (s.portOut.extractLsb' 4 4),
          .pulseW 7 (s.portOut.extractLsb' 4 4), .pulseR 7] }

/-- TICK (41_bus_scheduler.md R140): the slot of `idx`, then the advance. R140 refuses it inside a handler; that the refusal is
the fault Reentrant is the spec's own decision D21 (45_receiver.md R239, 60_exceptions.md R275), on a handler that is the
model's data (log 14). -/
def Obligations.TickRunsTheSlotAndAdvances : Prop :=
  (∀ (i : Axis) (s : State), s.fault = none → s.idx = BitVec.ofNat 3 i.val →
    ∃ u, exec (.axisSlot i) s = .next u ∧ exec .tick s = .next { u with idx := s.idx + 1 }) ∧
  (∀ s : State, s.fault = none → s.idx = 6 →
    ∃ u, exec (.portSlot .lo) s = .next u ∧ exec .tick s = .next { u with idx := 7 }) ∧
  (∀ s : State, s.fault = none → s.idx = 7 →
    ∃ u, exec (.portSlot .hi) s = .next u ∧ exec .tick s = .next { u with idx := 0 }) ∧
  (∀ (x : HandlerView) (s : State), s.fault = none → callEffect x .tick s = { s with fault := some .reentrant })

/-- The rows SLOT.AXIS0 to SLOT.AXIS5, SLOT.PORTA_LO and SLOT.PORTA_HI are the slots of the bus addresses 0 to 7 (20_memory.md
R61), with their address left on the lines. That a row is its slot is the model's reading (log 17). -/
def Obligations.SlotRowsRunTheirSlot : Prop :=
  ∀ s : State, s.fault = none →
    (∀ p ∈ axisSlotRows, ∃ t, exec p.1 s = .next t ∧ exec (.axisSlot p.2) s = .next t ∧
      t.a = BitVec.ofNat 3 p.2.val ∧ t.idx = s.idx) ∧
    (∀ p ∈ portSlotRows, ∃ t, exec p.1 s = .next t ∧ exec (.portSlot p.2) s = .next t ∧
      t.a = p.2.address ∧ t.idx = s.idx)

/-- Fairness (41_bus_scheduler.md R145): any number of ticks from any index selects the addresses one after the other, ascending
and wrapping from 7 to 0, so that any eight in a row select each once and an address comes again exactly eight ticks later. -/
def Obligations.TicksSelectAddressesRoundRobin : Prop :=
  (∀ (n : Nat) (s : State), s.fault = none →
    ∃ t, runInstrs (ticks n) s = .next t ∧ t.fault = none ∧ t.idx = s.idx + BitVec.ofNat 3 n ∧
      selections t.trace = selections s.trace ++ (List.range n).map (fun j => s.idx + BitVec.ofNat 3 j)) ∧
  (∀ s : State, s.fault = none →
    ∃ t, runInstrs (ticks 8) s = .next t ∧ t.idx = s.idx ∧
      selections t.trace = selections s.trace ++
        [s.idx, s.idx + 1, s.idx + 2, s.idx + 3, s.idx + 4, s.idx + 5, s.idx + 6, s.idx + 7])

/-- The events of a revolution (41_bus_scheduler.md R146). -/
def Obligations.RevolutionEvents : Prop :=
  ∀ s : State, s.fault = none → s.idx = 0 →
    ∃ (t : State) (d : List Event), runInstrs (ticks 8) s = .next t ∧ t.trace = s.trace ++ d ∧
      selections d = [0, 1, 2, 3, 4, 5, 6, 7] ∧
      d.filterMap (fun e => match e with | .axService i _ _ => some i | _ => none) = [0, 1, 2, 3, 4, 5] ∧
      d.filterMap (fun e => match e with | .sample a _ => some a | _ => none) = [6, 7] ∧
      d.filterMap (fun e => match e with | .pulseW a _ => some a | _ => none) = [0, 1, 2, 3, 4, 5, 6, 7] ∧
      d.filterMap (fun e => match e with | .pulseR a => some a | _ => none) = [6, 7]

/-- The address lines hold the last address a tick selected (41_bus_scheduler.md R147): after a tick they hold the index before
it, nothing off the bus path moves either, and before any tick they hold the reset draw. -/
def Obligations.LinesHoldTheLastSelectedAddress : Prop :=
  (∀ s t : State, exec .tick s = .next t → t.a = t.idx + 7) ∧
  (∀ (i : Instr) (s t : State), exec i s = .next t → drivesBus i = false → t.a = s.a ∧ t.idx = s.idx) ∧
  (∀ (p : Params) (d : ResetDraws), (State.resetWith p d).a = d.a)

/-! ### The codec -/

/-- CHECKSUM (44_frame_codec.md R190): returned and nothing else changed; the even positions XOR into the first byte, the odd
ones into the second, from 0x00 each. -/
def Obligations.ChecksumXorsByParity : Prop :=
  (∀ (region : List Byte) (s : State), s.fault = none →
    exec (.checksum region) s = .next { s with ret := .checksum (checksum region).1 (checksum region).2 }) ∧
  checksum [] = (0, 0) ∧ (∀ b : Byte, checksum [b] = (b, 0)) ∧
  (∀ (x y : Byte) (rest : List Byte),
    checksum (x :: y :: rest) = (x ^^^ (checksum rest).1, y ^^^ (checksum rest).2))

/-- What CHECKSUM detects (44_frame_codec.md R191): one changed byte changes exactly its parity's accumulator, by the change; a
set of changes is missed exactly when it XORs to zero in each parity class; swapped neighbours are missed exactly when equal. -/
def Obligations.ChecksumErrorDetection : Prop :=
  (∀ (r : List Byte) (j : Nat) (e : Byte), j < r.length →
    checksum (r.set j (r.getD j 0 ^^^ e)) =
      if j % 2 = 0 then ((checksum r).1 ^^^ e, (checksum r).2) else ((checksum r).1, (checksum r).2 ^^^ e)) ∧
  (∀ r masks : List Byte, r.length = masks.length →
    (checksum (List.zipWith (· ^^^ ·) r masks) = checksum r ↔ checksum masks = (0, 0))) ∧
  (∀ (p q : List Byte) (x y : Byte), checksum (p ++ x :: y :: q) = checksum (p ++ y :: x :: q) ↔ x = y)

/-- ENCODE_REQUEST and ENCODE_RESPONSE (44_frame_codec.md R192, R193): the frame is returned and nothing else changed; a length
over the limit, or unlike the payload's, raises EncodeLength. -/
def Obligations.EncodeBuildsTheFrame : Prop :=
  (∀ (opcode : Byte) (payload : List Byte) (n : Nat) (s : State), s.fault = none →
    exec (.encodeRequest opcode payload n) s = .next
      (if n = payload.length ∧ n ≤ 26 then
        let f : List Byte := [0xAA, 0x01, BitVec.ofNat 8 (n + 1), opcode] ++ payload
        { s with ret := .frame (f ++ [(checksum f).1, (checksum f).2]) }
       else { s with fault := some (.encodeLength n) })) ∧
  (∀ (opcode status : Byte) (payload : List Byte) (n : Nat) (s : State), s.fault = none →
    exec (.encodeResponse opcode status payload n) s = .next
      (if n = payload.length ∧ n ≤ 25 then
        let f : List Byte := [0xAA, 0x02, BitVec.ofNat 8 (n + 2), opcode, status] ++ payload
        { s with ret := .frame (f ++ [(checksum f).1, (checksum f).2]) }
       else { s with fault := some (.encodeLength n) }))

/-- VALIDATE (44_frame_codec.md R194): the checks in the source's order, the first failure's reason, the fault on a short
buffer; nothing but the result changes. -/
def Obligations.ValidateChecksInOrder : Prop :=
  ∀ (buf : List Byte) (total : Nat) (s : State), s.fault = none →
    exec (.validate buf total) s = .next
      (if total < 6 ∨ 32 < total then { s with ret := .verdict .lenRange }
       else if buf.length < total then { s with fault := some .validateShortBuffer }
       else if buf.getD 2 0 ≠ BitVec.ofNat 8 (total - 5) then { s with ret := .verdict .lenMismatch }
       else if buf.getD 0 0 ≠ 0xAA then { s with ret := .verdict .sentinel }
       else if ¬(buf.getD 1 0 = 0x01 ∨ buf.getD 1 0 = 0x02) then { s with ret := .verdict .type }
       else if (checksum (buf.take (total - 2))).1 ≠ buf.getD (total - 2) 0 ∨
            (checksum (buf.take (total - 2))).2 ≠ buf.getD (total - 1) 0 then { s with ret := .verdict .checksum }
       else { s with ret := .verdict .ok })

/-- DECODE (44_frame_codec.md R197): nothing for a frame VALIDATE rejects; otherwise the fields by type, with no status for a
Response of Length 1. Only the result changes. -/
def Obligations.DecodeTakesApartValidFrames : Prop :=
  (∀ (f : List Byte) (s : State), s.fault = none →
    exec (.decodeFrame f) s = .next { s with ret := .decoded (decodeBytes f) }) ∧
  (∀ f : List Byte, validateBytes f f.length ≠ .ok .ok → decodeBytes f = none) ∧
  (∀ f : List Byte, validateBytes f f.length = .ok .ok → f.getD 1 0 = 0x01 →
    decodeBytes f = some { type := .request, op := f.getD 3 0, len := f.getD 2 0, status := none,
                           payload := (f.drop 4).take (f.length - 6) }) ∧
  (∀ f : List Byte, validateBytes f f.length = .ok .ok → f.getD 1 0 = 0x02 → f.getD 2 0 = 1 →
    decodeBytes f = some { type := .response, op := f.getD 3 0, len := 1, status := none, payload := [] }) ∧
  (∀ f : List Byte, validateBytes f f.length = .ok .ok → f.getD 1 0 = 0x02 → f.getD 2 0 ≠ 1 →
    decodeBytes f = some { type := .response, op := f.getD 3 0, len := f.getD 2 0, status := some (f.getD 4 0),
                           payload := (f.drop 5).take (f.length - 7) })

/-- Encoded frames validate (44_frame_codec.md R196). -/
def Obligations.EncodedFramesValidate : Prop :=
  (∀ (opcode : Byte) (payload : List Byte) (s : State), s.fault = none → payload.length ≤ 26 →
    ∃ f, exec (.encodeRequest opcode payload payload.length) s = .next { s with ret := .frame f } ∧
      exec (.validate f f.length) s = .next { s with ret := .verdict .ok }) ∧
  (∀ (opcode status : Byte) (payload : List Byte) (s : State), s.fault = none → payload.length ≤ 25 →
    ∃ f, exec (.encodeResponse opcode status payload payload.length) s = .next { s with ret := .frame f } ∧
      exec (.validate f f.length) s = .next { s with ret := .verdict .ok })

/-- Decoding an encoded frame gives the operands back, with the Length field n + 1 or n + 2 (44_frame_codec.md R198). -/
def Obligations.DecodeInvertsEncode : Prop :=
  (∀ (opcode : Byte) (payload : List Byte) (s : State), s.fault = none → payload.length ≤ 26 →
    ∃ f, exec (.encodeRequest opcode payload payload.length) s = .next { s with ret := .frame f } ∧
      exec (.decodeFrame f) s = .next
        { s with ret := .decoded (some { type := .request, op := opcode, len := BitVec.ofNat 8 (payload.length + 1),
                                         status := none, payload := payload }) }) ∧
  (∀ (opcode status : Byte) (payload : List Byte) (s : State), s.fault = none → payload.length ≤ 25 →
    ∃ f, exec (.encodeResponse opcode status payload payload.length) s = .next { s with ret := .frame f } ∧
      exec (.decodeFrame f) s = .next
        { s with ret := .decoded (some { type := .response, op := opcode, len := BitVec.ofNat 8 (payload.length + 2),
                                         status := some status, payload := payload }) })

/-! ### The receiver -/

/-- RX_BYTE in state Sentinel (45_receiver.md R231), by its word and by its key. The cause code `c` is the model's field (log 20),
here and in the next three statements; FramingDiscardsAreSilent says its value. -/
def Obligations.SentinelWaitsForTheSentinelByte : Prop :=
  ∀ (b : Byte) (s : State), s.fault = none → s.rxState = .sentinel →
    ∃ (t : State) (c : Option RxCause), exec (.rxByte b) s = .next t ∧ exec (.rxSentinel b) s = .next t ∧
      t = if b = 0xAA then { s with buf := s.buf.write 0 b, pos := 1, rxState := .typeByte, rxCause := c }
          else { s with rxCause := c }

/-- RX_BYTE in state TypeByte (45_receiver.md R232), by its word and by its key, for both values of RESYNC_REEXAMINE. That a byte
which falls back may be examined again is the spec's own decision D11; the parameter stands in State (log 9). -/
def Obligations.TypeByteAcceptsOneOrTwo : Prop :=
  ∀ (b : Byte) (s : State), s.fault = none → s.rxState = .typeByte →
    ∃ (t : State) (c : Option RxCause), exec (.rxByte b) s = .next t ∧ exec (.rxTypeByte b) s = .next t ∧
      t = if b = 0x01 ∨ b = 0x02 then { s with buf := s.buf.write 1 b, pos := 2, rxState := .lengthByte, rxCause := c }
          else if s.params.resyncReexamine = true ∧ b = 0xAA then
            { s with buf := s.buf.write 0 b, pos := 1, rxState := .typeByte, rxCause := c }
          else { s with rxState := .sentinel, pos := 0, rxCause := c }

/-- RX_BYTE in state LengthByte (45_receiver.md R233), by its word and by its key, for both values of RESYNC_REEXAMINE. That a
byte which falls back may be examined again is the spec's own decision D11; the parameter stands in State (log 9). -/
def Obligations.LengthByteAcceptsOneToTwentySeven : Prop :=
  ∀ (b : Byte) (s : State), s.fault = none → s.rxState = .lengthByte →
    ∃ (t : State) (c : Option RxCause), exec (.rxByte b) s = .next t ∧ exec (.rxLengthByte b) s = .next t ∧
      t = if 1 ≤ b.toNat ∧ b.toNat ≤ 27 then
            { s with buf := s.buf.write 2 b, rxLen := b, pos := 3, rxState := .opCodeByte, rxCause := c }
          else if s.params.resyncReexamine = true ∧ b = 0xAA then
            { s with buf := s.buf.write 0 b, pos := 1, rxState := .typeByte, rxCause := c }
          else { s with rxState := .sentinel, pos := 0, rxCause := c }

/-- RX_BYTE in states OpCodeByte and DataBytes (45_receiver.md R234, R235), by their words and by their keys, for a position
inside the buffer, which the invariant of 10_state.md R36 gives between steps. -/
def Obligations.OpCodeAndDataBytesAreStored : Prop :=
  (∀ (b : Byte) (s : State), s.fault = none → s.rxState = .opCodeByte →
    ∃ (t : State) (c : Option RxCause), exec (.rxByte b) s = .next t ∧ exec (.rxOpCodeByte b) s = .next t ∧
      t = { s with buf := s.buf.write 3 b, pos := 4, rxCause := c,
                   rxState := if s.rxLen.toNat > 1 then .dataBytes else .checksumBytes }) ∧
  (∀ (b : Byte) (s : State), s.Inv → s.fault = none → s.rxState = .dataBytes →
    ∃ (t : State) (c : Option RxCause), exec (.rxByte b) s = .next t ∧ exec (.rxDataBytes b) s = .next t ∧
      t = { s with buf := s.buf.write s.pos b, pos := s.pos + 1, rxCause := c,
                   rxState := if s.pos + 1 = s.rxLen.toNat + 3 then .checksumBytes else .dataBytes })

/-- Framing errors (60_exceptions.md R271, R272): the cause code a byte leaves, which is the model's field (log 20), and the
silence of a discard: `rxState` and `pos` go back and nothing else changes. The contents of `buf` are left in place, but for the
byte's own store, which R236 makes before it finds the checksum wrong, and which R232 and R233 make of a 0xAA under
RESYNC_REEXAMINE (D11). -/
def Obligations.FramingDiscardsAreSilent : Prop :=
  (∀ (b : Byte) (s t : State), s.rxState ≠ .checksumBytes → exec (.rxByte b) s = .next t →
    t.rxCause = match s.rxState with
      | .sentinel => if b = 0xAA then none else some .staySentinel
      | .typeByte => if b = 0x01 ∨ b = 0x02 then none else some .badType
      | .lengthByte => if 1 ≤ b.toNat ∧ b.toNat ≤ 27 then none else some .badLength
      | .opCodeByte | .dataBytes | .checksumBytes => none) ∧
  (∀ (b : Byte) (s t : State) (c : RxCause), exec (.rxByte b) s = .next t → t.rxCause = some c →
    (c = .badChecksum ↔ s.rxState = .checksumBytes) ∧
    match s.rxState with
    | .sentinel => t = { s with rxCause := some c }
    | .typeByte | .lengthByte =>
        t = if s.params.resyncReexamine = true ∧ b = 0xAA then
              { s with rxState := .typeByte, pos := 1, buf := s.buf.write 0 b, rxCause := some c }
            else { s with rxState := .sentinel, pos := 0, rxCause := some c }
    | .opCodeByte | .dataBytes => False
    | .checksumBytes => t = { s with rxState := .sentinel, pos := 0, buf := s.buf.write s.pos b, rxCause := some c })

/-- RX_BYTE in state ChecksumBytes (45_receiver.md R236), by its word and by its key: the first checksum byte is stored; the
second completes the frame, which is dispatched or discarded, and the receiver returns to Sentinel. If the dispatched handler
raised a fault the machine stands where it was raised (60_exceptions.md R275; log 15). -/
def Obligations.ChecksumBytesCompleteTheFrame : Prop :=
  ∀ (b : Byte) (s : State), s.Inv → s.fault = none → s.rxState = .checksumBytes →
    ∃ t, exec (.rxByte b) s = .next t ∧ exec (.rxChecksumBytes b) s = .next t ∧
      let u : State := { s with buf := s.buf.write s.pos b, pos := s.pos + 1, rxCause := none }
      let total := s.rxLen.toNat + 5
      (s.pos + 1 ≠ total → t = u) ∧
      (s.pos + 1 = total →
        checksum (u.buf.slice 0 (total - 2)) ≠ (u.buf.read (total - 2), u.buf.read (total - 1)) →
        t = { u with rxState := .sentinel, pos := 0, rxCause := some .badChecksum }) ∧
      (s.pos + 1 = total →
        checksum (u.buf.slice 0 (total - 2)) = (u.buf.read (total - 2), u.buf.read (total - 1)) →
        ∃ d, exec .dispatch u = .next d ∧
          t = if d.fault = none then { d with rxState := .sentinel, pos := 0 } else d)

/-- The receiver's completion check is VALIDATE of the buffer (45_receiver.md R237). -/
def Obligations.CompletionCheckIsValidate : Prop :=
  ∀ (b : Byte) (s : State), s.Inv → s.fault = none → s.rxState = .checksumBytes → s.pos = s.rxLen.toNat + 4 →
    let m := s.buf.write s.pos b
    let total := s.rxLen.toNat + 5
    (validateBytes (m.slice 0 32) total = .ok .ok ↔
      checksum (m.slice 0 (total - 2)) = (m.read (total - 2), m.read (total - 1)))

/-- DISPATCH (45_receiver.md R238): a Request goes to the registered handler with its opcode, its Length and a copy of its
payload; a Response, or no handler, is nothing. A Length whose payload runs past the buffer, which no completed frame has,
raises the model's own fault (log 13). The count of handler calls is the model's own field (log 31). -/
def Obligations.DispatchHandsRequestsToTheHandler : Prop :=
  (∀ (h : Handler) (s : State), s.fault = none → s.handler = some h → s.buf.read 1 = 0x01 → s.rxLen.toNat ≤ 29 →
    exec .dispatch s = .next
      (runHandler h
        { op := s.buf.read 3, len := s.rxLen, payload := s.buf.slice 4 (s.rxLen.toNat - 1), run := s.handlerRuns, replies := [] }
        { s with
          trace := s.trace ++ [.dispatch (s.buf.read 3) s.rxLen (s.buf.slice 4 (s.rxLen.toNat - 1))]
          handlerRuns := s.handlerRuns + 1 })) ∧
  (∀ (h : Handler) (s : State), s.fault = none → s.handler = some h → s.buf.read 1 = 0x01 → 29 < s.rxLen.toNat →
    exec .dispatch s = .next { s with fault := some (.bufferRange (s.rxLen.toNat + 2)) }) ∧
  (∀ s : State, s.fault = none → (s.buf.read 1 ≠ 0x01 ∨ s.handler = none) → exec .dispatch s = .next s)

/-- A handler's run changes only the output cache, the transmit stream, the handler and the fault mark, and removes no sent byte
(45_receiver.md R239, 70_reset_and_hazards.md R318). -/
def Obligations.HandlerRunTouchesOnlyItsFields : Prop :=
  ∀ (h : Handler) (x : HandlerView) (s : State),
    let t := runHandler h x s
    t = { s with portOut := t.portOut, tx := t.tx, handler := t.handler, fault := t.fault } ∧ s.tx <+: t.tx

/-- What a handler does (45_receiver.md R239, 60_exceptions.md R275). Its calls run in order, each under its condition and each
seeing what the earlier ones returned; each allowed call is the operation itself, with `ret` left to the Loop's caller and the
result handed to the handler, of VALIDATE the bool alone (44_frame_codec.md R195); a call of the motion API changes nothing; a
call that raises a fault ends the run there; a call of TICK or RX_BYTE raises Reentrant (the spec's own decision D21). That a
handler is such data is the model's choice (log 14), and so are that a raising operation has a next state (log 12), where a
result stands (log 11) and the count of handler calls (log 31). -/
def Obligations.HandlerRunFollowsItsCalls : Prop :=
  (∀ (x : HandlerView) (s : State), runHandler .done x s = s) ∧
  (∀ (c : CondExpr) (k : HandlerCall) (rest : Handler) (x : HandlerView) (s : State), evalCond x c = true →
    runHandler (.call c k rest) x s =
      if (callEffect x k s).fault = none then
        runHandler rest { x with replies := x.replies ++ [callReply x k s] } (callEffect x k s)
      else callEffect x k s) ∧
  (∀ (c : CondExpr) (h rest : Handler) (x : HandlerView) (s : State), s.fault = none → evalCond x c = true →
    ∃ t, exec (.registerHandler h) s = .next t ∧
      runHandler (.register c h rest) x s = runHandler rest { x with replies := x.replies ++ [.none] } t) ∧
  (∀ (c : CondExpr) (k : HandlerCall) (h rest : Handler) (x : HandlerView) (s : State), evalCond x c = false →
    runHandler (.call c k rest) x s = runHandler rest x s ∧ runHandler (.register c h rest) x s = runHandler rest x s) ∧
  (∀ (x : HandlerView) (k : HandlerCall) (i : Instr) (s : State), s.fault = none → callOperation x k = some i →
    ∃ t, exec i { s with ret := .none } = .next t ∧
      callEffect x k s = { t with ret := s.ret } ∧ callReply x k s = .ofResult t.ret) ∧
  (∀ v : Verdict, Reply.ofResult (.verdict v) = .accepted (decide (v = .ok))) ∧
  (∀ (x : HandlerView) (m : MotionCall) (s : State), callEffect x (.motion m) s = s ∧ callReply x (.motion m) s = .none) ∧
  (∀ (c : CondExpr) (e : BytesExpr) (k : HandlerCall) (rest : Handler) (x : HandlerView) (s : State), s.fault = none →
    evalCond x c = true → (k = .tick ∨ k = .rxByte e) →
    runHandler (.call c k rest) x s = { s with fault := some .reentrant }) ∧
  (∀ (rest : Handler) (e : BytesExpr) (k : HandlerCall) (payload : List Byte) (s : State), s.fault = none →
    payload.length ≤ 26 → (k = .tick ∨ k = .rxByte e) → s.handler = some (.call .always k rest) →
    exec (.appPing payload) s = .next
      { s with trace := s.trace ++ [.dispatch 0x01 (BitVec.ofNat 8 (payload.length + 1)) payload],
               handlerRuns := s.handlerRuns + 1, fault := some .reentrant })

/-- Each named request (30_encoding.md R92) is handed to the handler with its opcode, its Length and its payload unchanged
(45_receiver.md R238); with no handler, nothing. That the row APP.<name> is this hand-over is the model's reading (log 19), the
count of handler calls its own field (log 31). -/
def Obligations.NamedRequestsReachTheHandler : Prop :=
  ∀ p ∈ namedRequests, ∀ (payload : List Byte) (s : State), s.fault = none → payload.length ≤ 26 →
    let len := BitVec.ofNat 8 (payload.length + 1)
    (∀ h, s.handler = some h → exec (p.1 payload) s = .next
      (runHandler h { op := p.2, len := len, payload := payload, run := s.handlerRuns, replies := [] }
        { s with trace := s.trace ++ [.dispatch p.2 len payload], handlerRuns := s.handlerRuns + 1 })) ∧
    (s.handler = none → exec (p.1 payload) s = .next s)

/-- End to end (45_receiver.md R244, R238): from Sentinel, the bytes of any encoded request reach the registered handler once,
with its opcode, Length and payload, whether they arrive as bytes or as the row FRAME.REQUEST; the frame lies in the buffer
and every other byte of it is unchanged; the receiver ends in Sentinel unless the handler raised a fault (log 15, log 18; the count of handler calls is the model's, log 31). -/
def Obligations.RequestFrameIsDelivered : Prop :=
  ∀ (opcode : Byte) (payload : List Byte) (h : Handler) (s : State),
    payload.length ≤ 26 → s.fault = none → s.rxState = .sentinel → s.handler = some h → s.buf.wf = true →
    let f := requestFrame opcode payload payload.length
    let len := BitVec.ofNat 8 (payload.length + 1)
    ∃ m : Memory, (∀ k, m.read k = if k < f.length then f.getD k 0 else s.buf.read k) ∧
      let d := runHandler h { op := opcode, len := len, payload := payload, run := s.handlerRuns, replies := [] }
        { s with buf := m, pos := f.length, rxState := .checksumBytes, rxLen := len, rxCause := none,
                 trace := s.trace ++ [.dispatch opcode len payload], handlerRuns := s.handlerRuns + 1 }
      let t := if d.fault = none then { d with rxState := .sentinel, pos := 0 } else d
      runInstrs (rxs f) s = .next t ∧ exec (.frameRequest len (f.drop 3)) s = .next t

/-- A frame that is a Response, or has a wrong checksum, or finds no handler, leaves no event, no sent byte and no change but
the receiver's own, and an illegal Length ends it at once (45_receiver.md R233, R236, R238, 60_exceptions.md R271, R272). The
rows FRAME.* are the model's reading (log 18), the cause codes its field (log 20). -/
def Obligations.OtherFramesAreSilent : Prop :=
  (∀ (type len : Byte) (body : List Byte) (s : State), s.fault = none → s.rxState = .sentinel → s.buf.wf = true →
    (type = 0x01 ∨ type = 0x02) → 1 ≤ len.toNat → len.toNat ≤ 27 → body.length = len.toNat + 2 →
    let f : List Byte := 0xAA :: type :: len :: body
    let good := checksum (f.take (len.toNat + 3)) = (f.getD (len.toNat + 3) 0, f.getD (len.toNat + 4) 0)
    (type = 0x02 ∨ ¬good ∨ s.handler = none) →
    ∃ (m : Memory) (cause : Option RxCause),
      (∀ k, m.read k = if k < f.length then f.getD k 0 else s.buf.read k) ∧
      (good → cause = none) ∧ (¬good → cause = some .badChecksum) ∧
      exec (if type = 0x01 then .frameRequest len body else .frameResponse len body) s = .next
        { s with buf := m, pos := 0, rxState := .sentinel, rxLen := len, rxCause := cause }) ∧
  (∀ (type len : Byte) (s : State), s.fault = none → s.rxState = .sentinel → s.buf.wf = true →
    (type = 0x01 ∨ type = 0x02) → (len.toNat < 1 ∨ 27 < len.toNat) →
    ¬(s.params.resyncReexamine = true ∧ len = 0xAA) →
    ∃ m : Memory,
      (∀ k, m.read k = if k = 0 then 0xAA else if k = 1 then type else s.buf.read k) ∧
      exec (if type = 0x01 then .frameRequest len [] else .frameResponse len []) s = .next
        { s with buf := m, pos := 0, rxState := .sentinel, rxCause := some .badLength })

/-- From any state the receiver is back in Sentinel within 31 further bytes (45_receiver.md R245), for RESYNC_REEXAMINE at its
default; a handler's fault on the way ends the run. -/
def Obligations.ReceiverResyncsWithinThirtyOneBytes : Prop :=
  ∀ (s : State) (bytes : List Byte), s.Inv → s.fault = none → s.params.resyncReexamine = false → 31 ≤ bytes.length →
    ∃ (k : Nat) (t : State), k ≤ 31 ∧ runInstrs (rxs (bytes.take k)) s = .next t ∧
      (t.rxState = .sentinel ∨ t.fault ≠ none)

/-- Thirty-one bytes other than 0xAA, or twenty-nine zero bytes, leave the receiver in Sentinel (70_reset_and_hazards.md R317),
unless a frame they happen to complete is dispatched to a handler that raises a fault. -/
def Obligations.FlushReturnsToSentinel : Prop :=
  ∀ (s : State) (bytes : List Byte), s.Inv → s.fault = none →
    ((31 ≤ bytes.length ∧ ∀ b ∈ bytes, b ≠ 0xAA) ∨ (29 ≤ bytes.length ∧ ∀ b ∈ bytes, b = 0x00)) →
    (∀ t, runInstrs (rxs bytes) s = .next t → t.fault = none → t.rxState = .sentinel ∧ t.pos = 0) ∧
    (s.handler = none → ∃ t, runInstrs (rxs bytes) s = .next t ∧ t.fault = none)

/-- SEND_RESPONSE (45_receiver.md R241): the whole frame is appended to the transmit stream at once, or EncodeLength is raised
and nothing is sent. -/
def Obligations.SendResponseAppendsTheFrame : Prop :=
  ∀ (opcode status : Byte) (payload : List Byte) (n : Nat) (s : State), s.fault = none →
    exec (.sendResponse opcode status payload n) s = .next
      (if n = payload.length ∧ n ≤ 25 then
        let f : List Byte := [0xAA, 0x02, BitVec.ofNat 8 (n + 2), opcode, status] ++ payload
        { s with tx := s.tx ++ (f ++ [(checksum f).1, (checksum f).2]) }
       else { s with fault := some (.encodeLength n) })

/-- REGISTER_HANDLER (45_receiver.md R242): the handler is set, whatever was registered before. -/
def Obligations.RegisterHandlerReplaces : Prop :=
  ∀ (h : Handler) (s : State), s.fault = none → exec (.registerHandler h) s = .next { s with handler := some h }

/-! ### Invariant and reset -/

/-- Every step keeps the invariant: strobes idle high (10_state.md R24), the buffer in canonical form, the receiver's table
(R36) and stored header (R32, 45_receiver.md R237). -/
def Obligations.StepKeepsTheInvariant : Prop :=
  ∀ s t : State, s.Inv → step s = .next t → t.Inv

/-- The invariant holds after reset, whatever the parameters and the unspecified values (10_state.md R44). -/
def Obligations.ResetMeetsTheInvariant : Prop :=
  State.reset.Inv ∧ ∀ (p : Params) (d : ResetDraws), d.buf.wf = true → (State.resetWith p d).Inv

/-- The state after reset (10_state.md R44): the given values, and a draw where the table says unspecified. -/
def Obligations.ResetValues : Prop :=
  ∀ (p : Params) (d : ResetDraws),
    let s := State.resetWith p d
    s.idx = 0 ∧ s.a = d.a ∧ s.nIOW = true ∧ s.nIOR = true ∧ s.dout = d.dout ∧
    s.portOut = (if p.resetZeroGlobals then 0x00 else d.portOut) ∧
    s.portInLo = (if p.resetZeroGlobals then 0x0 else d.portInLo) ∧
    s.portInHi = (if p.resetZeroGlobals then 0x0 else d.portInHi) ∧
    s.motorState = (if p.resetZeroGlobals then 0x00 else d.motorState) ∧
    s.rxState = .sentinel ∧ s.pos = 0 ∧ s.rxLen = d.rxLen ∧ s.buf = d.buf ∧ s.handler = none ∧
    s.trace = [] ∧ s.tx = [] ∧ s.fault = none

/-! ### Payload layout -/

/-- The JointPosition payload (30_encoding.md R93): 24 bytes, field k at bytes 2k and 2k+1 low byte first, and it gives the
twelve fields back. -/
def Obligations.JointPositionLayout : Prop :=
  (∀ p : JointPosition,
    (jointPayload p).length = 24 ∧ jointOfPayload (jointPayload p) = some p ∧
    halfAt (jointPayload p) 0 = p.base.position ∧ halfAt (jointPayload p) 1 = p.base.speed ∧
    halfAt (jointPayload p) 2 = p.shoulder.position ∧ halfAt (jointPayload p) 3 = p.shoulder.speed ∧
    halfAt (jointPayload p) 4 = p.elbow.position ∧ halfAt (jointPayload p) 5 = p.elbow.speed ∧
    halfAt (jointPayload p) 6 = p.leftDiff.position ∧ halfAt (jointPayload p) 7 = p.leftDiff.speed ∧
    halfAt (jointPayload p) 8 = p.rightDiff.position ∧ halfAt (jointPayload p) 9 = p.rightDiff.speed ∧
    halfAt (jointPayload p) 10 = p.gripper.position ∧ halfAt (jointPayload p) 11 = p.gripper.speed ∧
    (jointPayload p).getD 0 0 = p.base.position.extractLsb' 0 8 ∧
    (jointPayload p).getD 1 0 = p.base.position.extractLsb' 8 8) ∧
  (∀ b : List Byte, b.length = 24 → ∃ p, jointOfPayload b = some p ∧ jointPayload p = b)
end

