-- ==== Sys2Proof/Laws/Decode.lean ====
section
/-! SUPPORT. The two bytes of a word (30_encoding.md R97), and the operand checks of the decoder on what the encoder writes. -/

namespace Sys2Proof

theorem getLsbD_joinBytes (hi lo : Byte) (k : Nat) :
    (joinBytes hi lo).getLsbD k = if k < 8 then lo.getLsbD k else hi.getLsbD (k - 8) := by
  simp only [joinBytes, BitVec.getLsbD_or, BitVec.getLsbD_shiftLeft, BitVec.getLsbD_setWidth]
  by_cases h8 : k < 8
  · have : k < 16 := by omega
    simp [h8, this]
  · have hl : lo.getLsbD k = false := BitVec.getLsbD_of_ge lo k (by omega)
    by_cases h16 : k < 16
    · have : k - 8 < 16 := by omega
      simp [h8, h16, hl, this]
    · have hh : hi.getLsbD (k - 8) = false := BitVec.getLsbD_of_ge hi (k - 8) (by omega)
      simp [h8, h16, hh]

@[simp] theorem highByte_joinBytes (hi lo : Byte) : highByte (joinBytes hi lo) = hi := by
  apply BitVec.eq_of_getLsbD_eq
  intro k hk
  have : ¬8 + k < 8 := by omega
  simp [highByte, getLsbD_joinBytes, hk]

@[simp] theorem lowByte_joinBytes (hi lo : Byte) : lowByte (joinBytes hi lo) = lo := by
  apply BitVec.eq_of_getLsbD_eq
  intro k hk
  simp [lowByte, getLsbD_joinBytes, hk]

theorem joinBytes_high_low (w : OpWord) : joinBytes (highByte w) (lowByte w) = w := by
  apply BitVec.eq_of_getLsbD_eq
  intro k hk
  rw [getLsbD_joinBytes]
  by_cases h8 : k < 8
  · simp [h8, lowByte]
  · have : k - 8 < 8 := by omega
    have e : 8 + (k - 8) = k := by omega
    simp [h8, highByte, this, e]

@[simp] theorem decodeNoImm_zero (opid : Byte) (i : Instr) : decodeNoImm opid 0 i = .ok i := rfl

@[simp] theorem decodeFixedImm_self (opid want : Byte) (i : Instr) : decodeFixedImm opid want want i = .ok i := by
  simp [decodeFixedImm]

@[simp] theorem axisImm_toNat (i : Axis) : (axisImm i).toNat = i.val := by
  simp [axisImm, BitVec.toNat_ofNat]
  omega

@[simp] theorem decodeAxisImm_axisImm (opid : Byte) (mk : Axis → Instr) (i : Axis) :
    decodeAxisImm opid (axisImm i) mk = .ok (mk i) := by
  simp [decodeAxisImm, i.isLt]

@[simp] theorem decodePortImm_portImm (opid : Byte) (mk : PortNibble → Instr) (k : PortNibble) :
    decodePortImm opid (portImm k) mk = .ok (mk k) := by
  cases k <;> rfl

/-- The bits of a word under a mask, byte by byte. -/
theorem joinBytes_and (hi lo mhi mlo : Byte) : joinBytes hi lo &&& joinBytes mhi mlo = joinBytes (hi &&& mhi) (lo &&& mlo) := by
  apply BitVec.eq_of_getLsbD_eq
  intro k hk
  simp only [BitVec.getLsbD_and, getLsbD_joinBytes]
  split <;> rfl

/-- A mask of the opid bits leaves the high byte alone. -/
theorem joinBytes_and_opid (hi lo : Byte) : joinBytes hi lo &&& 0xFF00#16 = joinBytes (hi &&& 0xFF#8) 0 := by
  have h := joinBytes_and hi lo 0xFF#8 0#8
  rwa [BitVec.and_zero] at h

/-- A mask of a key's state code leaves the code alone. -/
theorem joinBytes_and_code (hi lo : Byte) : joinBytes hi lo &&& 0x0700#16 = joinBytes (hi &&& 0x07#8) 0 := by
  have h := joinBytes_and hi lo 0x07#8 0#8
  rwa [BitVec.and_zero] at h

end Sys2Proof
end

