-- ==== Sys2Proof/Laws/State.lean ====
section
/-! SUPPORT. One lemma per field per named update of State. The updates that write their fields outright come first, each
lemma true by rfl; the ones that branch (a fault mark, the buffer's bound, an answer list) follow, for the fields they leave. -/

namespace Sys2Proof.Machine

/-! ### emit -/

@[simp] theorem emit_idx (s : State) (e : Event) : (s.emit e).idx = s.idx := rfl
@[simp] theorem emit_a (s : State) (e : Event) : (s.emit e).a = s.a := rfl
@[simp] theorem emit_nIOW (s : State) (e : Event) : (s.emit e).nIOW = s.nIOW := rfl
@[simp] theorem emit_nIOR (s : State) (e : Event) : (s.emit e).nIOR = s.nIOR := rfl
@[simp] theorem emit_dout (s : State) (e : Event) : (s.emit e).dout = s.dout := rfl
@[simp] theorem emit_portOut (s : State) (e : Event) : (s.emit e).portOut = s.portOut := rfl
@[simp] theorem emit_portInLo (s : State) (e : Event) : (s.emit e).portInLo = s.portInLo := rfl
@[simp] theorem emit_portInHi (s : State) (e : Event) : (s.emit e).portInHi = s.portInHi := rfl
@[simp] theorem emit_motorState (s : State) (e : Event) : (s.emit e).motorState = s.motorState := rfl
@[simp] theorem emit_rxState (s : State) (e : Event) : (s.emit e).rxState = s.rxState := rfl
@[simp] theorem emit_buf (s : State) (e : Event) : (s.emit e).buf = s.buf := rfl
@[simp] theorem emit_pos (s : State) (e : Event) : (s.emit e).pos = s.pos := rfl
@[simp] theorem emit_rxLen (s : State) (e : Event) : (s.emit e).rxLen = s.rxLen := rfl
@[simp] theorem emit_handler (s : State) (e : Event) : (s.emit e).handler = s.handler := rfl
@[simp] theorem emit_tx (s : State) (e : Event) : (s.emit e).tx = s.tx := rfl
@[simp] theorem emit_trace (s : State) (e : Event) : (s.emit e).trace = s.trace ++ [e] := rfl
@[simp] theorem emit_fault (s : State) (e : Event) : (s.emit e).fault = s.fault := rfl
@[simp] theorem emit_params (s : State) (e : Event) : (s.emit e).params = s.params := rfl
@[simp] theorem emit_answersDI (s : State) (e : Event) : (s.emit e).answersDI = s.answersDI := rfl
@[simp] theorem emit_answersService (s : State) (e : Event) : (s.emit e).answersService = s.answersService := rfl
@[simp] theorem emit_answersEnabled (s : State) (e : Event) : (s.emit e).answersEnabled = s.answersEnabled := rfl
@[simp] theorem emit_drawCount (s : State) (e : Event) : (s.emit e).drawCount = s.drawCount := rfl
@[simp] theorem emit_handlerRuns (s : State) (e : Event) : (s.emit e).handlerRuns = s.handlerRuns := rfl
@[simp] theorem emit_agenda (s : State) (e : Event) : (s.emit e).agenda = s.agenda := rfl
@[simp] theorem emit_ret (s : State) (e : Event) : (s.emit e).ret = s.ret := rfl
@[simp] theorem emit_rxCause (s : State) (e : Event) : (s.emit e).rxCause = s.rxCause := rfl

/-! ### send -/

@[simp] theorem send_idx (s : State) (bytes : List Byte) : (s.send bytes).idx = s.idx := rfl
@[simp] theorem send_a (s : State) (bytes : List Byte) : (s.send bytes).a = s.a := rfl
@[simp] theorem send_nIOW (s : State) (bytes : List Byte) : (s.send bytes).nIOW = s.nIOW := rfl
@[simp] theorem send_nIOR (s : State) (bytes : List Byte) : (s.send bytes).nIOR = s.nIOR := rfl
@[simp] theorem send_dout (s : State) (bytes : List Byte) : (s.send bytes).dout = s.dout := rfl
@[simp] theorem send_portOut (s : State) (bytes : List Byte) : (s.send bytes).portOut = s.portOut := rfl
@[simp] theorem send_portInLo (s : State) (bytes : List Byte) : (s.send bytes).portInLo = s.portInLo := rfl
@[simp] theorem send_portInHi (s : State) (bytes : List Byte) : (s.send bytes).portInHi = s.portInHi := rfl
@[simp] theorem send_motorState (s : State) (bytes : List Byte) : (s.send bytes).motorState = s.motorState := rfl
@[simp] theorem send_rxState (s : State) (bytes : List Byte) : (s.send bytes).rxState = s.rxState := rfl
@[simp] theorem send_buf (s : State) (bytes : List Byte) : (s.send bytes).buf = s.buf := rfl
@[simp] theorem send_pos (s : State) (bytes : List Byte) : (s.send bytes).pos = s.pos := rfl
@[simp] theorem send_rxLen (s : State) (bytes : List Byte) : (s.send bytes).rxLen = s.rxLen := rfl
@[simp] theorem send_handler (s : State) (bytes : List Byte) : (s.send bytes).handler = s.handler := rfl
@[simp] theorem send_tx (s : State) (bytes : List Byte) : (s.send bytes).tx = s.tx ++ bytes := rfl
@[simp] theorem send_trace (s : State) (bytes : List Byte) : (s.send bytes).trace = s.trace := rfl
@[simp] theorem send_fault (s : State) (bytes : List Byte) : (s.send bytes).fault = s.fault := rfl
@[simp] theorem send_params (s : State) (bytes : List Byte) : (s.send bytes).params = s.params := rfl
@[simp] theorem send_answersDI (s : State) (bytes : List Byte) : (s.send bytes).answersDI = s.answersDI := rfl
@[simp] theorem send_answersService (s : State) (bytes : List Byte) : (s.send bytes).answersService = s.answersService := rfl
@[simp] theorem send_answersEnabled (s : State) (bytes : List Byte) : (s.send bytes).answersEnabled = s.answersEnabled := rfl
@[simp] theorem send_drawCount (s : State) (bytes : List Byte) : (s.send bytes).drawCount = s.drawCount := rfl
@[simp] theorem send_handlerRuns (s : State) (bytes : List Byte) : (s.send bytes).handlerRuns = s.handlerRuns := rfl
@[simp] theorem send_agenda (s : State) (bytes : List Byte) : (s.send bytes).agenda = s.agenda := rfl
@[simp] theorem send_ret (s : State) (bytes : List Byte) : (s.send bytes).ret = s.ret := rfl
@[simp] theorem send_rxCause (s : State) (bytes : List Byte) : (s.send bytes).rxCause = s.rxCause := rfl

/-! ### answer -/

@[simp] theorem answer_idx (s : State) (r : Result) : (s.answer r).idx = s.idx := rfl
@[simp] theorem answer_a (s : State) (r : Result) : (s.answer r).a = s.a := rfl
@[simp] theorem answer_nIOW (s : State) (r : Result) : (s.answer r).nIOW = s.nIOW := rfl
@[simp] theorem answer_nIOR (s : State) (r : Result) : (s.answer r).nIOR = s.nIOR := rfl
@[simp] theorem answer_dout (s : State) (r : Result) : (s.answer r).dout = s.dout := rfl
@[simp] theorem answer_portOut (s : State) (r : Result) : (s.answer r).portOut = s.portOut := rfl
@[simp] theorem answer_portInLo (s : State) (r : Result) : (s.answer r).portInLo = s.portInLo := rfl
@[simp] theorem answer_portInHi (s : State) (r : Result) : (s.answer r).portInHi = s.portInHi := rfl
@[simp] theorem answer_motorState (s : State) (r : Result) : (s.answer r).motorState = s.motorState := rfl
@[simp] theorem answer_rxState (s : State) (r : Result) : (s.answer r).rxState = s.rxState := rfl
@[simp] theorem answer_buf (s : State) (r : Result) : (s.answer r).buf = s.buf := rfl
@[simp] theorem answer_pos (s : State) (r : Result) : (s.answer r).pos = s.pos := rfl
@[simp] theorem answer_rxLen (s : State) (r : Result) : (s.answer r).rxLen = s.rxLen := rfl
@[simp] theorem answer_handler (s : State) (r : Result) : (s.answer r).handler = s.handler := rfl
@[simp] theorem answer_tx (s : State) (r : Result) : (s.answer r).tx = s.tx := rfl
@[simp] theorem answer_trace (s : State) (r : Result) : (s.answer r).trace = s.trace := rfl
@[simp] theorem answer_fault (s : State) (r : Result) : (s.answer r).fault = s.fault := rfl
@[simp] theorem answer_params (s : State) (r : Result) : (s.answer r).params = s.params := rfl
@[simp] theorem answer_answersDI (s : State) (r : Result) : (s.answer r).answersDI = s.answersDI := rfl
@[simp] theorem answer_answersService (s : State) (r : Result) : (s.answer r).answersService = s.answersService := rfl
@[simp] theorem answer_answersEnabled (s : State) (r : Result) : (s.answer r).answersEnabled = s.answersEnabled := rfl
@[simp] theorem answer_drawCount (s : State) (r : Result) : (s.answer r).drawCount = s.drawCount := rfl
@[simp] theorem answer_handlerRuns (s : State) (r : Result) : (s.answer r).handlerRuns = s.handlerRuns := rfl
@[simp] theorem answer_agenda (s : State) (r : Result) : (s.answer r).agenda = s.agenda := rfl
@[simp] theorem answer_ret (s : State) (r : Result) : (s.answer r).ret = r := rfl
@[simp] theorem answer_rxCause (s : State) (r : Result) : (s.answer r).rxCause = s.rxCause := rfl

/-! ### discard -/

@[simp] theorem discard_idx (s : State) (c : RxCause) : (s.discard c).idx = s.idx := rfl
@[simp] theorem discard_a (s : State) (c : RxCause) : (s.discard c).a = s.a := rfl
@[simp] theorem discard_nIOW (s : State) (c : RxCause) : (s.discard c).nIOW = s.nIOW := rfl
@[simp] theorem discard_nIOR (s : State) (c : RxCause) : (s.discard c).nIOR = s.nIOR := rfl
@[simp] theorem discard_dout (s : State) (c : RxCause) : (s.discard c).dout = s.dout := rfl
@[simp] theorem discard_portOut (s : State) (c : RxCause) : (s.discard c).portOut = s.portOut := rfl
@[simp] theorem discard_portInLo (s : State) (c : RxCause) : (s.discard c).portInLo = s.portInLo := rfl
@[simp] theorem discard_portInHi (s : State) (c : RxCause) : (s.discard c).portInHi = s.portInHi := rfl
@[simp] theorem discard_motorState (s : State) (c : RxCause) : (s.discard c).motorState = s.motorState := rfl
@[simp] theorem discard_rxState (s : State) (c : RxCause) : (s.discard c).rxState = .sentinel := rfl
@[simp] theorem discard_buf (s : State) (c : RxCause) : (s.discard c).buf = s.buf := rfl
@[simp] theorem discard_pos (s : State) (c : RxCause) : (s.discard c).pos = 0 := rfl
@[simp] theorem discard_rxLen (s : State) (c : RxCause) : (s.discard c).rxLen = s.rxLen := rfl
@[simp] theorem discard_handler (s : State) (c : RxCause) : (s.discard c).handler = s.handler := rfl
@[simp] theorem discard_tx (s : State) (c : RxCause) : (s.discard c).tx = s.tx := rfl
@[simp] theorem discard_trace (s : State) (c : RxCause) : (s.discard c).trace = s.trace := rfl
@[simp] theorem discard_fault (s : State) (c : RxCause) : (s.discard c).fault = s.fault := rfl
@[simp] theorem discard_params (s : State) (c : RxCause) : (s.discard c).params = s.params := rfl
@[simp] theorem discard_answersDI (s : State) (c : RxCause) : (s.discard c).answersDI = s.answersDI := rfl
@[simp] theorem discard_answersService (s : State) (c : RxCause) : (s.discard c).answersService = s.answersService := rfl
@[simp] theorem discard_answersEnabled (s : State) (c : RxCause) : (s.discard c).answersEnabled = s.answersEnabled := rfl
@[simp] theorem discard_drawCount (s : State) (c : RxCause) : (s.discard c).drawCount = s.drawCount := rfl
@[simp] theorem discard_handlerRuns (s : State) (c : RxCause) : (s.discard c).handlerRuns = s.handlerRuns := rfl
@[simp] theorem discard_agenda (s : State) (c : RxCause) : (s.discard c).agenda = s.agenda := rfl
@[simp] theorem discard_ret (s : State) (c : RxCause) : (s.discard c).ret = s.ret := rfl
@[simp] theorem discard_rxCause (s : State) (c : RxCause) : (s.discard c).rxCause = some c := rfl

/-! ### advance -/

@[simp] theorem advance_idx (s : State) : (s.advance).idx = s.idx := rfl
@[simp] theorem advance_a (s : State) : (s.advance).a = s.a := rfl
@[simp] theorem advance_nIOW (s : State) : (s.advance).nIOW = s.nIOW := rfl
@[simp] theorem advance_nIOR (s : State) : (s.advance).nIOR = s.nIOR := rfl
@[simp] theorem advance_dout (s : State) : (s.advance).dout = s.dout := rfl
@[simp] theorem advance_portOut (s : State) : (s.advance).portOut = s.portOut := rfl
@[simp] theorem advance_portInLo (s : State) : (s.advance).portInLo = s.portInLo := rfl
@[simp] theorem advance_portInHi (s : State) : (s.advance).portInHi = s.portInHi := rfl
@[simp] theorem advance_motorState (s : State) : (s.advance).motorState = s.motorState := rfl
@[simp] theorem advance_rxState (s : State) : (s.advance).rxState = s.rxState := rfl
@[simp] theorem advance_buf (s : State) : (s.advance).buf = s.buf := rfl
@[simp] theorem advance_pos (s : State) : (s.advance).pos = s.pos := rfl
@[simp] theorem advance_rxLen (s : State) : (s.advance).rxLen = s.rxLen := rfl
@[simp] theorem advance_handler (s : State) : (s.advance).handler = s.handler := rfl
@[simp] theorem advance_tx (s : State) : (s.advance).tx = s.tx := rfl
@[simp] theorem advance_trace (s : State) : (s.advance).trace = s.trace := rfl
@[simp] theorem advance_fault (s : State) : (s.advance).fault = s.fault := rfl
@[simp] theorem advance_params (s : State) : (s.advance).params = s.params := rfl
@[simp] theorem advance_answersDI (s : State) : (s.advance).answersDI = s.answersDI := rfl
@[simp] theorem advance_answersService (s : State) : (s.advance).answersService = s.answersService := rfl
@[simp] theorem advance_answersEnabled (s : State) : (s.advance).answersEnabled = s.answersEnabled := rfl
@[simp] theorem advance_drawCount (s : State) : (s.advance).drawCount = s.drawCount := rfl
@[simp] theorem advance_handlerRuns (s : State) : (s.advance).handlerRuns = s.handlerRuns := rfl
@[simp] theorem advance_agenda (s : State) : (s.advance).agenda = s.agenda.tail := rfl
@[simp] theorem advance_ret (s : State) : (s.advance).ret = s.ret := rfl
@[simp] theorem advance_rxCause (s : State) : (s.advance).rxCause = s.rxCause := rfl

/-! ### driveAddress -/

@[simp] theorem driveAddress_idx (x : BusAddress) (s : State) : (driveAddress x s).idx = s.idx := rfl
@[simp] theorem driveAddress_a (x : BusAddress) (s : State) : (driveAddress x s).a = x := rfl
@[simp] theorem driveAddress_nIOW (x : BusAddress) (s : State) : (driveAddress x s).nIOW = s.nIOW := rfl
@[simp] theorem driveAddress_nIOR (x : BusAddress) (s : State) : (driveAddress x s).nIOR = s.nIOR := rfl
@[simp] theorem driveAddress_dout (x : BusAddress) (s : State) : (driveAddress x s).dout = s.dout := rfl
@[simp] theorem driveAddress_portOut (x : BusAddress) (s : State) : (driveAddress x s).portOut = s.portOut := rfl
@[simp] theorem driveAddress_portInLo (x : BusAddress) (s : State) : (driveAddress x s).portInLo = s.portInLo := rfl
@[simp] theorem driveAddress_portInHi (x : BusAddress) (s : State) : (driveAddress x s).portInHi = s.portInHi := rfl
@[simp] theorem driveAddress_motorState (x : BusAddress) (s : State) : (driveAddress x s).motorState = s.motorState := rfl
@[simp] theorem driveAddress_rxState (x : BusAddress) (s : State) : (driveAddress x s).rxState = s.rxState := rfl
@[simp] theorem driveAddress_buf (x : BusAddress) (s : State) : (driveAddress x s).buf = s.buf := rfl
@[simp] theorem driveAddress_pos (x : BusAddress) (s : State) : (driveAddress x s).pos = s.pos := rfl
@[simp] theorem driveAddress_rxLen (x : BusAddress) (s : State) : (driveAddress x s).rxLen = s.rxLen := rfl
@[simp] theorem driveAddress_handler (x : BusAddress) (s : State) : (driveAddress x s).handler = s.handler := rfl
@[simp] theorem driveAddress_tx (x : BusAddress) (s : State) : (driveAddress x s).tx = s.tx := rfl
@[simp] theorem driveAddress_trace (x : BusAddress) (s : State) : (driveAddress x s).trace = s.trace ++ [.sel x] := rfl
@[simp] theorem driveAddress_fault (x : BusAddress) (s : State) : (driveAddress x s).fault = s.fault := rfl
@[simp] theorem driveAddress_params (x : BusAddress) (s : State) : (driveAddress x s).params = s.params := rfl
@[simp] theorem driveAddress_answersDI (x : BusAddress) (s : State) : (driveAddress x s).answersDI = s.answersDI := rfl
@[simp] theorem driveAddress_answersService (x : BusAddress) (s : State) : (driveAddress x s).answersService = s.answersService := rfl
@[simp] theorem driveAddress_answersEnabled (x : BusAddress) (s : State) : (driveAddress x s).answersEnabled = s.answersEnabled := rfl
@[simp] theorem driveAddress_drawCount (x : BusAddress) (s : State) : (driveAddress x s).drawCount = s.drawCount := rfl
@[simp] theorem driveAddress_handlerRuns (x : BusAddress) (s : State) : (driveAddress x s).handlerRuns = s.handlerRuns := rfl
@[simp] theorem driveAddress_agenda (x : BusAddress) (s : State) : (driveAddress x s).agenda = s.agenda := rfl
@[simp] theorem driveAddress_ret (x : BusAddress) (s : State) : (driveAddress x s).ret = s.ret := rfl
@[simp] theorem driveAddress_rxCause (x : BusAddress) (s : State) : (driveAddress x s).rxCause = s.rxCause := rfl

/-! ### pulseWrite -/

@[simp] theorem pulseWrite_idx (s : State) : (pulseWrite s).idx = s.idx := rfl
@[simp] theorem pulseWrite_a (s : State) : (pulseWrite s).a = s.a := rfl
@[simp] theorem pulseWrite_nIOW (s : State) : (pulseWrite s).nIOW = true := rfl
@[simp] theorem pulseWrite_nIOR (s : State) : (pulseWrite s).nIOR = s.nIOR := rfl
@[simp] theorem pulseWrite_dout (s : State) : (pulseWrite s).dout = s.dout := rfl
@[simp] theorem pulseWrite_portOut (s : State) : (pulseWrite s).portOut = s.portOut := rfl
@[simp] theorem pulseWrite_portInLo (s : State) : (pulseWrite s).portInLo = s.portInLo := rfl
@[simp] theorem pulseWrite_portInHi (s : State) : (pulseWrite s).portInHi = s.portInHi := rfl
@[simp] theorem pulseWrite_motorState (s : State) : (pulseWrite s).motorState = s.motorState := rfl
@[simp] theorem pulseWrite_rxState (s : State) : (pulseWrite s).rxState = s.rxState := rfl
@[simp] theorem pulseWrite_buf (s : State) : (pulseWrite s).buf = s.buf := rfl
@[simp] theorem pulseWrite_pos (s : State) : (pulseWrite s).pos = s.pos := rfl
@[simp] theorem pulseWrite_rxLen (s : State) : (pulseWrite s).rxLen = s.rxLen := rfl
@[simp] theorem pulseWrite_handler (s : State) : (pulseWrite s).handler = s.handler := rfl
@[simp] theorem pulseWrite_tx (s : State) : (pulseWrite s).tx = s.tx := rfl
@[simp] theorem pulseWrite_trace (s : State) : (pulseWrite s).trace = s.trace ++ [.pulseW s.a s.dout] := rfl
@[simp] theorem pulseWrite_fault (s : State) : (pulseWrite s).fault = s.fault := rfl
@[simp] theorem pulseWrite_params (s : State) : (pulseWrite s).params = s.params := rfl
@[simp] theorem pulseWrite_answersDI (s : State) : (pulseWrite s).answersDI = s.answersDI := rfl
@[simp] theorem pulseWrite_answersService (s : State) : (pulseWrite s).answersService = s.answersService := rfl
@[simp] theorem pulseWrite_answersEnabled (s : State) : (pulseWrite s).answersEnabled = s.answersEnabled := rfl
@[simp] theorem pulseWrite_drawCount (s : State) : (pulseWrite s).drawCount = s.drawCount := rfl
@[simp] theorem pulseWrite_handlerRuns (s : State) : (pulseWrite s).handlerRuns = s.handlerRuns := rfl
@[simp] theorem pulseWrite_agenda (s : State) : (pulseWrite s).agenda = s.agenda := rfl
@[simp] theorem pulseWrite_ret (s : State) : (pulseWrite s).ret = s.ret := rfl
@[simp] theorem pulseWrite_rxCause (s : State) : (pulseWrite s).rxCause = s.rxCause := rfl

/-! ### pulseRead -/

@[simp] theorem pulseRead_idx (s : State) : (pulseRead s).idx = s.idx := rfl
@[simp] theorem pulseRead_a (s : State) : (pulseRead s).a = s.a := rfl
@[simp] theorem pulseRead_nIOW (s : State) : (pulseRead s).nIOW = s.nIOW := rfl
@[simp] theorem pulseRead_nIOR (s : State) : (pulseRead s).nIOR = true := rfl
@[simp] theorem pulseRead_dout (s : State) : (pulseRead s).dout = s.dout := rfl
@[simp] theorem pulseRead_portOut (s : State) : (pulseRead s).portOut = s.portOut := rfl
@[simp] theorem pulseRead_portInLo (s : State) : (pulseRead s).portInLo = s.portInLo := rfl
@[simp] theorem pulseRead_portInHi (s : State) : (pulseRead s).portInHi = s.portInHi := rfl
@[simp] theorem pulseRead_motorState (s : State) : (pulseRead s).motorState = s.motorState := rfl
@[simp] theorem pulseRead_rxState (s : State) : (pulseRead s).rxState = s.rxState := rfl
@[simp] theorem pulseRead_buf (s : State) : (pulseRead s).buf = s.buf := rfl
@[simp] theorem pulseRead_pos (s : State) : (pulseRead s).pos = s.pos := rfl
@[simp] theorem pulseRead_rxLen (s : State) : (pulseRead s).rxLen = s.rxLen := rfl
@[simp] theorem pulseRead_handler (s : State) : (pulseRead s).handler = s.handler := rfl
@[simp] theorem pulseRead_tx (s : State) : (pulseRead s).tx = s.tx := rfl
@[simp] theorem pulseRead_trace (s : State) : (pulseRead s).trace = s.trace ++ [.pulseR s.a] := rfl
@[simp] theorem pulseRead_fault (s : State) : (pulseRead s).fault = s.fault := rfl
@[simp] theorem pulseRead_params (s : State) : (pulseRead s).params = s.params := rfl
@[simp] theorem pulseRead_answersDI (s : State) : (pulseRead s).answersDI = s.answersDI := rfl
@[simp] theorem pulseRead_answersService (s : State) : (pulseRead s).answersService = s.answersService := rfl
@[simp] theorem pulseRead_answersEnabled (s : State) : (pulseRead s).answersEnabled = s.answersEnabled := rfl
@[simp] theorem pulseRead_drawCount (s : State) : (pulseRead s).drawCount = s.drawCount := rfl
@[simp] theorem pulseRead_handlerRuns (s : State) : (pulseRead s).handlerRuns = s.handlerRuns := rfl
@[simp] theorem pulseRead_agenda (s : State) : (pulseRead s).agenda = s.agenda := rfl
@[simp] theorem pulseRead_ret (s : State) : (pulseRead s).ret = s.ret := rfl
@[simp] theorem pulseRead_rxCause (s : State) : (pulseRead s).rxCause = s.rxCause := rfl

/-! ### driveOutput -/

@[simp] theorem driveOutput_idx (v : Byte) (s : State) : (driveOutput v s).idx = s.idx := rfl
@[simp] theorem driveOutput_a (v : Byte) (s : State) : (driveOutput v s).a = s.a := rfl
@[simp] theorem driveOutput_nIOW (v : Byte) (s : State) : (driveOutput v s).nIOW = s.nIOW := rfl
@[simp] theorem driveOutput_nIOR (v : Byte) (s : State) : (driveOutput v s).nIOR = s.nIOR := rfl
@[simp] theorem driveOutput_dout (v : Byte) (s : State) : (driveOutput v s).dout = lowNibble v := rfl
@[simp] theorem driveOutput_portOut (v : Byte) (s : State) : (driveOutput v s).portOut = s.portOut := rfl
@[simp] theorem driveOutput_portInLo (v : Byte) (s : State) : (driveOutput v s).portInLo = s.portInLo := rfl
@[simp] theorem driveOutput_portInHi (v : Byte) (s : State) : (driveOutput v s).portInHi = s.portInHi := rfl
@[simp] theorem driveOutput_motorState (v : Byte) (s : State) : (driveOutput v s).motorState = s.motorState := rfl
@[simp] theorem driveOutput_rxState (v : Byte) (s : State) : (driveOutput v s).rxState = s.rxState := rfl
@[simp] theorem driveOutput_buf (v : Byte) (s : State) : (driveOutput v s).buf = s.buf := rfl
@[simp] theorem driveOutput_pos (v : Byte) (s : State) : (driveOutput v s).pos = s.pos := rfl
@[simp] theorem driveOutput_rxLen (v : Byte) (s : State) : (driveOutput v s).rxLen = s.rxLen := rfl
@[simp] theorem driveOutput_handler (v : Byte) (s : State) : (driveOutput v s).handler = s.handler := rfl
@[simp] theorem driveOutput_tx (v : Byte) (s : State) : (driveOutput v s).tx = s.tx := rfl
@[simp] theorem driveOutput_trace (v : Byte) (s : State) : (driveOutput v s).trace = s.trace ++ [.out (lowNibble v)] := rfl
@[simp] theorem driveOutput_fault (v : Byte) (s : State) : (driveOutput v s).fault = s.fault := rfl
@[simp] theorem driveOutput_params (v : Byte) (s : State) : (driveOutput v s).params = s.params := rfl
@[simp] theorem driveOutput_answersDI (v : Byte) (s : State) : (driveOutput v s).answersDI = s.answersDI := rfl
@[simp] theorem driveOutput_answersService (v : Byte) (s : State) : (driveOutput v s).answersService = s.answersService := rfl
@[simp] theorem driveOutput_answersEnabled (v : Byte) (s : State) : (driveOutput v s).answersEnabled = s.answersEnabled := rfl
@[simp] theorem driveOutput_drawCount (v : Byte) (s : State) : (driveOutput v s).drawCount = s.drawCount := rfl
@[simp] theorem driveOutput_handlerRuns (v : Byte) (s : State) : (driveOutput v s).handlerRuns = s.handlerRuns := rfl
@[simp] theorem driveOutput_agenda (v : Byte) (s : State) : (driveOutput v s).agenda = s.agenda := rfl
@[simp] theorem driveOutput_ret (v : Byte) (s : State) : (driveOutput v s).ret = s.ret := rfl
@[simp] theorem driveOutput_rxCause (v : Byte) (s : State) : (driveOutput v s).rxCause = s.rxCause := rfl

/-! ### reenableCalls -/

@[simp] theorem reenableCalls_idx (i : Axis) (s : State) : (reenableCalls i s).idx = s.idx := rfl
@[simp] theorem reenableCalls_a (i : Axis) (s : State) : (reenableCalls i s).a = s.a := rfl
@[simp] theorem reenableCalls_nIOW (i : Axis) (s : State) : (reenableCalls i s).nIOW = s.nIOW := rfl
@[simp] theorem reenableCalls_nIOR (i : Axis) (s : State) : (reenableCalls i s).nIOR = s.nIOR := rfl
@[simp] theorem reenableCalls_dout (i : Axis) (s : State) : (reenableCalls i s).dout = s.dout := rfl
@[simp] theorem reenableCalls_portOut (i : Axis) (s : State) : (reenableCalls i s).portOut = s.portOut := rfl
@[simp] theorem reenableCalls_portInLo (i : Axis) (s : State) : (reenableCalls i s).portInLo = s.portInLo := rfl
@[simp] theorem reenableCalls_portInHi (i : Axis) (s : State) : (reenableCalls i s).portInHi = s.portInHi := rfl
@[simp] theorem reenableCalls_motorState (i : Axis) (s : State) : (reenableCalls i s).motorState = s.motorState := rfl
@[simp] theorem reenableCalls_rxState (i : Axis) (s : State) : (reenableCalls i s).rxState = s.rxState := rfl
@[simp] theorem reenableCalls_buf (i : Axis) (s : State) : (reenableCalls i s).buf = s.buf := rfl
@[simp] theorem reenableCalls_pos (i : Axis) (s : State) : (reenableCalls i s).pos = s.pos := rfl
@[simp] theorem reenableCalls_rxLen (i : Axis) (s : State) : (reenableCalls i s).rxLen = s.rxLen := rfl
@[simp] theorem reenableCalls_handler (i : Axis) (s : State) : (reenableCalls i s).handler = s.handler := rfl
@[simp] theorem reenableCalls_tx (i : Axis) (s : State) : (reenableCalls i s).tx = s.tx := rfl
@[simp] theorem reenableCalls_trace (i : Axis) (s : State) : (reenableCalls i s).trace = s.trace ++ [.axDisable i] ++ [.axEnable i] := rfl
@[simp] theorem reenableCalls_fault (i : Axis) (s : State) : (reenableCalls i s).fault = s.fault := rfl
@[simp] theorem reenableCalls_params (i : Axis) (s : State) : (reenableCalls i s).params = s.params := rfl
@[simp] theorem reenableCalls_answersDI (i : Axis) (s : State) : (reenableCalls i s).answersDI = s.answersDI := rfl
@[simp] theorem reenableCalls_answersService (i : Axis) (s : State) : (reenableCalls i s).answersService = s.answersService := rfl
@[simp] theorem reenableCalls_answersEnabled (i : Axis) (s : State) : (reenableCalls i s).answersEnabled = s.answersEnabled := rfl
@[simp] theorem reenableCalls_drawCount (i : Axis) (s : State) : (reenableCalls i s).drawCount = s.drawCount := rfl
@[simp] theorem reenableCalls_handlerRuns (i : Axis) (s : State) : (reenableCalls i s).handlerRuns = s.handlerRuns := rfl
@[simp] theorem reenableCalls_agenda (i : Axis) (s : State) : (reenableCalls i s).agenda = s.agenda := rfl
@[simp] theorem reenableCalls_ret (i : Axis) (s : State) : (reenableCalls i s).ret = s.ret := rfl
@[simp] theorem reenableCalls_rxCause (i : Axis) (s : State) : (reenableCalls i s).rxCause = s.rxCause := rfl

/-! ### storeOutput -/

@[simp] theorem storeOutput_idx (b : Byte) (s : State) : (storeOutput b s).idx = s.idx := rfl
@[simp] theorem storeOutput_a (b : Byte) (s : State) : (storeOutput b s).a = s.a := rfl
@[simp] theorem storeOutput_nIOW (b : Byte) (s : State) : (storeOutput b s).nIOW = s.nIOW := rfl
@[simp] theorem storeOutput_nIOR (b : Byte) (s : State) : (storeOutput b s).nIOR = s.nIOR := rfl
@[simp] theorem storeOutput_dout (b : Byte) (s : State) : (storeOutput b s).dout = s.dout := rfl
@[simp] theorem storeOutput_portOut (b : Byte) (s : State) : (storeOutput b s).portOut = b := rfl
@[simp] theorem storeOutput_portInLo (b : Byte) (s : State) : (storeOutput b s).portInLo = s.portInLo := rfl
@[simp] theorem storeOutput_portInHi (b : Byte) (s : State) : (storeOutput b s).portInHi = s.portInHi := rfl
@[simp] theorem storeOutput_motorState (b : Byte) (s : State) : (storeOutput b s).motorState = s.motorState := rfl
@[simp] theorem storeOutput_rxState (b : Byte) (s : State) : (storeOutput b s).rxState = s.rxState := rfl
@[simp] theorem storeOutput_buf (b : Byte) (s : State) : (storeOutput b s).buf = s.buf := rfl
@[simp] theorem storeOutput_pos (b : Byte) (s : State) : (storeOutput b s).pos = s.pos := rfl
@[simp] theorem storeOutput_rxLen (b : Byte) (s : State) : (storeOutput b s).rxLen = s.rxLen := rfl
@[simp] theorem storeOutput_handler (b : Byte) (s : State) : (storeOutput b s).handler = s.handler := rfl
@[simp] theorem storeOutput_tx (b : Byte) (s : State) : (storeOutput b s).tx = s.tx := rfl
@[simp] theorem storeOutput_trace (b : Byte) (s : State) : (storeOutput b s).trace = s.trace := rfl
@[simp] theorem storeOutput_fault (b : Byte) (s : State) : (storeOutput b s).fault = s.fault := rfl
@[simp] theorem storeOutput_params (b : Byte) (s : State) : (storeOutput b s).params = s.params := rfl
@[simp] theorem storeOutput_answersDI (b : Byte) (s : State) : (storeOutput b s).answersDI = s.answersDI := rfl
@[simp] theorem storeOutput_answersService (b : Byte) (s : State) : (storeOutput b s).answersService = s.answersService := rfl
@[simp] theorem storeOutput_answersEnabled (b : Byte) (s : State) : (storeOutput b s).answersEnabled = s.answersEnabled := rfl
@[simp] theorem storeOutput_drawCount (b : Byte) (s : State) : (storeOutput b s).drawCount = s.drawCount := rfl
@[simp] theorem storeOutput_handlerRuns (b : Byte) (s : State) : (storeOutput b s).handlerRuns = s.handlerRuns := rfl
@[simp] theorem storeOutput_agenda (b : Byte) (s : State) : (storeOutput b s).agenda = s.agenda := rfl
@[simp] theorem storeOutput_ret (b : Byte) (s : State) : (storeOutput b s).ret = s.ret := rfl
@[simp] theorem storeOutput_rxCause (b : Byte) (s : State) : (storeOutput b s).rxCause = s.rxCause := rfl

/-! ### registerHandler -/

@[simp] theorem registerHandler_idx (h : Handler) (s : State) : (registerHandler h s).idx = s.idx := rfl
@[simp] theorem registerHandler_a (h : Handler) (s : State) : (registerHandler h s).a = s.a := rfl
@[simp] theorem registerHandler_nIOW (h : Handler) (s : State) : (registerHandler h s).nIOW = s.nIOW := rfl
@[simp] theorem registerHandler_nIOR (h : Handler) (s : State) : (registerHandler h s).nIOR = s.nIOR := rfl
@[simp] theorem registerHandler_dout (h : Handler) (s : State) : (registerHandler h s).dout = s.dout := rfl
@[simp] theorem registerHandler_portOut (h : Handler) (s : State) : (registerHandler h s).portOut = s.portOut := rfl
@[simp] theorem registerHandler_portInLo (h : Handler) (s : State) : (registerHandler h s).portInLo = s.portInLo := rfl
@[simp] theorem registerHandler_portInHi (h : Handler) (s : State) : (registerHandler h s).portInHi = s.portInHi := rfl
@[simp] theorem registerHandler_motorState (h : Handler) (s : State) : (registerHandler h s).motorState = s.motorState := rfl
@[simp] theorem registerHandler_rxState (h : Handler) (s : State) : (registerHandler h s).rxState = s.rxState := rfl
@[simp] theorem registerHandler_buf (h : Handler) (s : State) : (registerHandler h s).buf = s.buf := rfl
@[simp] theorem registerHandler_pos (h : Handler) (s : State) : (registerHandler h s).pos = s.pos := rfl
@[simp] theorem registerHandler_rxLen (h : Handler) (s : State) : (registerHandler h s).rxLen = s.rxLen := rfl
@[simp] theorem registerHandler_handler (h : Handler) (s : State) : (registerHandler h s).handler = some h := rfl
@[simp] theorem registerHandler_tx (h : Handler) (s : State) : (registerHandler h s).tx = s.tx := rfl
@[simp] theorem registerHandler_trace (h : Handler) (s : State) : (registerHandler h s).trace = s.trace := rfl
@[simp] theorem registerHandler_fault (h : Handler) (s : State) : (registerHandler h s).fault = s.fault := rfl
@[simp] theorem registerHandler_params (h : Handler) (s : State) : (registerHandler h s).params = s.params := rfl
@[simp] theorem registerHandler_answersDI (h : Handler) (s : State) : (registerHandler h s).answersDI = s.answersDI := rfl
@[simp] theorem registerHandler_answersService (h : Handler) (s : State) : (registerHandler h s).answersService = s.answersService := rfl
@[simp] theorem registerHandler_answersEnabled (h : Handler) (s : State) : (registerHandler h s).answersEnabled = s.answersEnabled := rfl
@[simp] theorem registerHandler_drawCount (h : Handler) (s : State) : (registerHandler h s).drawCount = s.drawCount := rfl
@[simp] theorem registerHandler_handlerRuns (h : Handler) (s : State) : (registerHandler h s).handlerRuns = s.handlerRuns := rfl
@[simp] theorem registerHandler_agenda (h : Handler) (s : State) : (registerHandler h s).agenda = s.agenda := rfl
@[simp] theorem registerHandler_ret (h : Handler) (s : State) : (registerHandler h s).ret = s.ret := rfl
@[simp] theorem registerHandler_rxCause (h : Handler) (s : State) : (registerHandler h s).rxCause = s.rxCause := rfl

/-! ### handlerEntered -/

@[simp] theorem handlerEntered_idx (s : State) : (s.handlerEntered).idx = s.idx := rfl
@[simp] theorem handlerEntered_a (s : State) : (s.handlerEntered).a = s.a := rfl
@[simp] theorem handlerEntered_nIOW (s : State) : (s.handlerEntered).nIOW = s.nIOW := rfl
@[simp] theorem handlerEntered_nIOR (s : State) : (s.handlerEntered).nIOR = s.nIOR := rfl
@[simp] theorem handlerEntered_dout (s : State) : (s.handlerEntered).dout = s.dout := rfl
@[simp] theorem handlerEntered_portOut (s : State) : (s.handlerEntered).portOut = s.portOut := rfl
@[simp] theorem handlerEntered_portInLo (s : State) : (s.handlerEntered).portInLo = s.portInLo := rfl
@[simp] theorem handlerEntered_portInHi (s : State) : (s.handlerEntered).portInHi = s.portInHi := rfl
@[simp] theorem handlerEntered_motorState (s : State) : (s.handlerEntered).motorState = s.motorState := rfl
@[simp] theorem handlerEntered_rxState (s : State) : (s.handlerEntered).rxState = s.rxState := rfl
@[simp] theorem handlerEntered_buf (s : State) : (s.handlerEntered).buf = s.buf := rfl
@[simp] theorem handlerEntered_pos (s : State) : (s.handlerEntered).pos = s.pos := rfl
@[simp] theorem handlerEntered_rxLen (s : State) : (s.handlerEntered).rxLen = s.rxLen := rfl
@[simp] theorem handlerEntered_handler (s : State) : (s.handlerEntered).handler = s.handler := rfl
@[simp] theorem handlerEntered_tx (s : State) : (s.handlerEntered).tx = s.tx := rfl
@[simp] theorem handlerEntered_trace (s : State) : (s.handlerEntered).trace = s.trace := rfl
@[simp] theorem handlerEntered_fault (s : State) : (s.handlerEntered).fault = s.fault := rfl
@[simp] theorem handlerEntered_params (s : State) : (s.handlerEntered).params = s.params := rfl
@[simp] theorem handlerEntered_answersDI (s : State) : (s.handlerEntered).answersDI = s.answersDI := rfl
@[simp] theorem handlerEntered_answersService (s : State) : (s.handlerEntered).answersService = s.answersService := rfl
@[simp] theorem handlerEntered_answersEnabled (s : State) : (s.handlerEntered).answersEnabled = s.answersEnabled := rfl
@[simp] theorem handlerEntered_drawCount (s : State) : (s.handlerEntered).drawCount = s.drawCount := rfl
@[simp] theorem handlerEntered_handlerRuns (s : State) : (s.handlerEntered).handlerRuns = s.handlerRuns + 1 := rfl
@[simp] theorem handlerEntered_agenda (s : State) : (s.handlerEntered).agenda = s.agenda := rfl
@[simp] theorem handlerEntered_ret (s : State) : (s.handlerEntered).ret = s.ret := rfl
@[simp] theorem handlerEntered_rxCause (s : State) : (s.handlerEntered).rxCause = s.rxCause := rfl

/-! ### toSentinel -/

@[simp] theorem toSentinel_idx (s : State) : (toSentinel s).idx = s.idx := rfl
@[simp] theorem toSentinel_a (s : State) : (toSentinel s).a = s.a := rfl
@[simp] theorem toSentinel_nIOW (s : State) : (toSentinel s).nIOW = s.nIOW := rfl
@[simp] theorem toSentinel_nIOR (s : State) : (toSentinel s).nIOR = s.nIOR := rfl
@[simp] theorem toSentinel_dout (s : State) : (toSentinel s).dout = s.dout := rfl
@[simp] theorem toSentinel_portOut (s : State) : (toSentinel s).portOut = s.portOut := rfl
@[simp] theorem toSentinel_portInLo (s : State) : (toSentinel s).portInLo = s.portInLo := rfl
@[simp] theorem toSentinel_portInHi (s : State) : (toSentinel s).portInHi = s.portInHi := rfl
@[simp] theorem toSentinel_motorState (s : State) : (toSentinel s).motorState = s.motorState := rfl
@[simp] theorem toSentinel_rxState (s : State) : (toSentinel s).rxState = .sentinel := rfl
@[simp] theorem toSentinel_buf (s : State) : (toSentinel s).buf = s.buf := rfl
@[simp] theorem toSentinel_pos (s : State) : (toSentinel s).pos = 0 := rfl
@[simp] theorem toSentinel_rxLen (s : State) : (toSentinel s).rxLen = s.rxLen := rfl
@[simp] theorem toSentinel_handler (s : State) : (toSentinel s).handler = s.handler := rfl
@[simp] theorem toSentinel_tx (s : State) : (toSentinel s).tx = s.tx := rfl
@[simp] theorem toSentinel_trace (s : State) : (toSentinel s).trace = s.trace := rfl
@[simp] theorem toSentinel_fault (s : State) : (toSentinel s).fault = s.fault := rfl
@[simp] theorem toSentinel_params (s : State) : (toSentinel s).params = s.params := rfl
@[simp] theorem toSentinel_answersDI (s : State) : (toSentinel s).answersDI = s.answersDI := rfl
@[simp] theorem toSentinel_answersService (s : State) : (toSentinel s).answersService = s.answersService := rfl
@[simp] theorem toSentinel_answersEnabled (s : State) : (toSentinel s).answersEnabled = s.answersEnabled := rfl
@[simp] theorem toSentinel_drawCount (s : State) : (toSentinel s).drawCount = s.drawCount := rfl
@[simp] theorem toSentinel_handlerRuns (s : State) : (toSentinel s).handlerRuns = s.handlerRuns := rfl
@[simp] theorem toSentinel_agenda (s : State) : (toSentinel s).agenda = s.agenda := rfl
@[simp] theorem toSentinel_ret (s : State) : (toSentinel s).ret = s.ret := rfl
@[simp] theorem toSentinel_rxCause (s : State) : (toSentinel s).rxCause = s.rxCause := rfl

/-! ### raise -/

@[simp] theorem raise_idx (s : State) (r : Fault) : (s.raise r).idx = s.idx := by unfold State.raise; split <;> rfl
@[simp] theorem raise_a (s : State) (r : Fault) : (s.raise r).a = s.a := by unfold State.raise; split <;> rfl
@[simp] theorem raise_nIOW (s : State) (r : Fault) : (s.raise r).nIOW = s.nIOW := by unfold State.raise; split <;> rfl
@[simp] theorem raise_nIOR (s : State) (r : Fault) : (s.raise r).nIOR = s.nIOR := by unfold State.raise; split <;> rfl
@[simp] theorem raise_dout (s : State) (r : Fault) : (s.raise r).dout = s.dout := by unfold State.raise; split <;> rfl
@[simp] theorem raise_portOut (s : State) (r : Fault) : (s.raise r).portOut = s.portOut := by unfold State.raise; split <;> rfl
@[simp] theorem raise_portInLo (s : State) (r : Fault) : (s.raise r).portInLo = s.portInLo := by unfold State.raise; split <;> rfl
@[simp] theorem raise_portInHi (s : State) (r : Fault) : (s.raise r).portInHi = s.portInHi := by unfold State.raise; split <;> rfl
@[simp] theorem raise_motorState (s : State) (r : Fault) : (s.raise r).motorState = s.motorState := by unfold State.raise; split <;> rfl
@[simp] theorem raise_rxState (s : State) (r : Fault) : (s.raise r).rxState = s.rxState := by unfold State.raise; split <;> rfl
@[simp] theorem raise_buf (s : State) (r : Fault) : (s.raise r).buf = s.buf := by unfold State.raise; split <;> rfl
@[simp] theorem raise_pos (s : State) (r : Fault) : (s.raise r).pos = s.pos := by unfold State.raise; split <;> rfl
@[simp] theorem raise_rxLen (s : State) (r : Fault) : (s.raise r).rxLen = s.rxLen := by unfold State.raise; split <;> rfl
@[simp] theorem raise_handler (s : State) (r : Fault) : (s.raise r).handler = s.handler := by unfold State.raise; split <;> rfl
@[simp] theorem raise_tx (s : State) (r : Fault) : (s.raise r).tx = s.tx := by unfold State.raise; split <;> rfl
@[simp] theorem raise_trace (s : State) (r : Fault) : (s.raise r).trace = s.trace := by unfold State.raise; split <;> rfl
@[simp] theorem raise_params (s : State) (r : Fault) : (s.raise r).params = s.params := by unfold State.raise; split <;> rfl
@[simp] theorem raise_answersDI (s : State) (r : Fault) : (s.raise r).answersDI = s.answersDI := by unfold State.raise; split <;> rfl
@[simp] theorem raise_answersService (s : State) (r : Fault) : (s.raise r).answersService = s.answersService := by unfold State.raise; split <;> rfl
@[simp] theorem raise_answersEnabled (s : State) (r : Fault) : (s.raise r).answersEnabled = s.answersEnabled := by unfold State.raise; split <;> rfl
@[simp] theorem raise_drawCount (s : State) (r : Fault) : (s.raise r).drawCount = s.drawCount := by unfold State.raise; split <;> rfl
@[simp] theorem raise_handlerRuns (s : State) (r : Fault) : (s.raise r).handlerRuns = s.handlerRuns := by unfold State.raise; split <;> rfl
@[simp] theorem raise_agenda (s : State) (r : Fault) : (s.raise r).agenda = s.agenda := by unfold State.raise; split <;> rfl
@[simp] theorem raise_ret (s : State) (r : Fault) : (s.raise r).ret = s.ret := by unfold State.raise; split <;> rfl
@[simp] theorem raise_rxCause (s : State) (r : Fault) : (s.raise r).rxCause = s.rxCause := by unfold State.raise; split <;> rfl

/-! ### bufWrite -/

@[simp] theorem bufWrite_idx (s : State) (i : Nat) (b : Byte) : (s.bufWrite i b).idx = s.idx := by unfold State.bufWrite; split <;> simp
@[simp] theorem bufWrite_a (s : State) (i : Nat) (b : Byte) : (s.bufWrite i b).a = s.a := by unfold State.bufWrite; split <;> simp
@[simp] theorem bufWrite_nIOW (s : State) (i : Nat) (b : Byte) : (s.bufWrite i b).nIOW = s.nIOW := by unfold State.bufWrite; split <;> simp
@[simp] theorem bufWrite_nIOR (s : State) (i : Nat) (b : Byte) : (s.bufWrite i b).nIOR = s.nIOR := by unfold State.bufWrite; split <;> simp
@[simp] theorem bufWrite_dout (s : State) (i : Nat) (b : Byte) : (s.bufWrite i b).dout = s.dout := by unfold State.bufWrite; split <;> simp
@[simp] theorem bufWrite_portOut (s : State) (i : Nat) (b : Byte) : (s.bufWrite i b).portOut = s.portOut := by unfold State.bufWrite; split <;> simp
@[simp] theorem bufWrite_portInLo (s : State) (i : Nat) (b : Byte) : (s.bufWrite i b).portInLo = s.portInLo := by unfold State.bufWrite; split <;> simp
@[simp] theorem bufWrite_portInHi (s : State) (i : Nat) (b : Byte) : (s.bufWrite i b).portInHi = s.portInHi := by unfold State.bufWrite; split <;> simp
@[simp] theorem bufWrite_motorState (s : State) (i : Nat) (b : Byte) : (s.bufWrite i b).motorState = s.motorState := by unfold State.bufWrite; split <;> simp
@[simp] theorem bufWrite_rxState (s : State) (i : Nat) (b : Byte) : (s.bufWrite i b).rxState = s.rxState := by unfold State.bufWrite; split <;> simp
@[simp] theorem bufWrite_pos (s : State) (i : Nat) (b : Byte) : (s.bufWrite i b).pos = s.pos := by unfold State.bufWrite; split <;> simp
@[simp] theorem bufWrite_rxLen (s : State) (i : Nat) (b : Byte) : (s.bufWrite i b).rxLen = s.rxLen := by unfold State.bufWrite; split <;> simp
@[simp] theorem bufWrite_handler (s : State) (i : Nat) (b : Byte) : (s.bufWrite i b).handler = s.handler := by unfold State.bufWrite; split <;> simp
@[simp] theorem bufWrite_tx (s : State) (i : Nat) (b : Byte) : (s.bufWrite i b).tx = s.tx := by unfold State.bufWrite; split <;> simp
@[simp] theorem bufWrite_trace (s : State) (i : Nat) (b : Byte) : (s.bufWrite i b).trace = s.trace := by unfold State.bufWrite; split <;> simp
@[simp] theorem bufWrite_params (s : State) (i : Nat) (b : Byte) : (s.bufWrite i b).params = s.params := by unfold State.bufWrite; split <;> simp
@[simp] theorem bufWrite_answersDI (s : State) (i : Nat) (b : Byte) : (s.bufWrite i b).answersDI = s.answersDI := by unfold State.bufWrite; split <;> simp
@[simp] theorem bufWrite_answersService (s : State) (i : Nat) (b : Byte) : (s.bufWrite i b).answersService = s.answersService := by unfold State.bufWrite; split <;> simp
@[simp] theorem bufWrite_answersEnabled (s : State) (i : Nat) (b : Byte) : (s.bufWrite i b).answersEnabled = s.answersEnabled := by unfold State.bufWrite; split <;> simp
@[simp] theorem bufWrite_drawCount (s : State) (i : Nat) (b : Byte) : (s.bufWrite i b).drawCount = s.drawCount := by unfold State.bufWrite; split <;> simp
@[simp] theorem bufWrite_handlerRuns (s : State) (i : Nat) (b : Byte) : (s.bufWrite i b).handlerRuns = s.handlerRuns := by unfold State.bufWrite; split <;> simp
@[simp] theorem bufWrite_agenda (s : State) (i : Nat) (b : Byte) : (s.bufWrite i b).agenda = s.agenda := by unfold State.bufWrite; split <;> simp
@[simp] theorem bufWrite_ret (s : State) (i : Nat) (b : Byte) : (s.bufWrite i b).ret = s.ret := by unfold State.bufWrite; split <;> simp
@[simp] theorem bufWrite_rxCause (s : State) (i : Nat) (b : Byte) : (s.bufWrite i b).rxCause = s.rxCause := by unfold State.bufWrite; split <;> simp

/-! ### sampleTaken -/

@[simp] theorem sampleTaken_idx (s : State) : (s.sampleTaken).idx = s.idx := by unfold State.sampleTaken; split <;> rfl
@[simp] theorem sampleTaken_a (s : State) : (s.sampleTaken).a = s.a := by unfold State.sampleTaken; split <;> rfl
@[simp] theorem sampleTaken_nIOW (s : State) : (s.sampleTaken).nIOW = s.nIOW := by unfold State.sampleTaken; split <;> rfl
@[simp] theorem sampleTaken_nIOR (s : State) : (s.sampleTaken).nIOR = s.nIOR := by unfold State.sampleTaken; split <;> rfl
@[simp] theorem sampleTaken_dout (s : State) : (s.sampleTaken).dout = s.dout := by unfold State.sampleTaken; split <;> rfl
@[simp] theorem sampleTaken_portOut (s : State) : (s.sampleTaken).portOut = s.portOut := by unfold State.sampleTaken; split <;> rfl
@[simp] theorem sampleTaken_portInLo (s : State) : (s.sampleTaken).portInLo = s.portInLo := by unfold State.sampleTaken; split <;> rfl
@[simp] theorem sampleTaken_portInHi (s : State) : (s.sampleTaken).portInHi = s.portInHi := by unfold State.sampleTaken; split <;> rfl
@[simp] theorem sampleTaken_motorState (s : State) : (s.sampleTaken).motorState = s.motorState := by unfold State.sampleTaken; split <;> rfl
@[simp] theorem sampleTaken_rxState (s : State) : (s.sampleTaken).rxState = s.rxState := by unfold State.sampleTaken; split <;> rfl
@[simp] theorem sampleTaken_buf (s : State) : (s.sampleTaken).buf = s.buf := by unfold State.sampleTaken; split <;> rfl
@[simp] theorem sampleTaken_pos (s : State) : (s.sampleTaken).pos = s.pos := by unfold State.sampleTaken; split <;> rfl
@[simp] theorem sampleTaken_rxLen (s : State) : (s.sampleTaken).rxLen = s.rxLen := by unfold State.sampleTaken; split <;> rfl
@[simp] theorem sampleTaken_handler (s : State) : (s.sampleTaken).handler = s.handler := by unfold State.sampleTaken; split <;> rfl
@[simp] theorem sampleTaken_tx (s : State) : (s.sampleTaken).tx = s.tx := by unfold State.sampleTaken; split <;> rfl
@[simp] theorem sampleTaken_trace (s : State) : (s.sampleTaken).trace = s.trace := by unfold State.sampleTaken; split <;> rfl
@[simp] theorem sampleTaken_fault (s : State) : (s.sampleTaken).fault = s.fault := by unfold State.sampleTaken; split <;> rfl
@[simp] theorem sampleTaken_params (s : State) : (s.sampleTaken).params = s.params := by unfold State.sampleTaken; split <;> rfl
@[simp] theorem sampleTaken_answersService (s : State) : (s.sampleTaken).answersService = s.answersService := by unfold State.sampleTaken; split <;> rfl
@[simp] theorem sampleTaken_answersEnabled (s : State) : (s.sampleTaken).answersEnabled = s.answersEnabled := by unfold State.sampleTaken; split <;> rfl
@[simp] theorem sampleTaken_handlerRuns (s : State) : (s.sampleTaken).handlerRuns = s.handlerRuns := by unfold State.sampleTaken; split <;> rfl
@[simp] theorem sampleTaken_agenda (s : State) : (s.sampleTaken).agenda = s.agenda := by unfold State.sampleTaken; split <;> rfl
@[simp] theorem sampleTaken_ret (s : State) : (s.sampleTaken).ret = s.ret := by unfold State.sampleTaken; split <;> rfl
@[simp] theorem sampleTaken_rxCause (s : State) : (s.sampleTaken).rxCause = s.rxCause := by unfold State.sampleTaken; split <;> rfl

/-! ### serviceTaken -/

@[simp] theorem serviceTaken_idx (s : State) : (s.serviceTaken).idx = s.idx := by unfold State.serviceTaken; split <;> rfl
@[simp] theorem serviceTaken_a (s : State) : (s.serviceTaken).a = s.a := by unfold State.serviceTaken; split <;> rfl
@[simp] theorem serviceTaken_nIOW (s : State) : (s.serviceTaken).nIOW = s.nIOW := by unfold State.serviceTaken; split <;> rfl
@[simp] theorem serviceTaken_nIOR (s : State) : (s.serviceTaken).nIOR = s.nIOR := by unfold State.serviceTaken; split <;> rfl
@[simp] theorem serviceTaken_dout (s : State) : (s.serviceTaken).dout = s.dout := by unfold State.serviceTaken; split <;> rfl
@[simp] theorem serviceTaken_portOut (s : State) : (s.serviceTaken).portOut = s.portOut := by unfold State.serviceTaken; split <;> rfl
@[simp] theorem serviceTaken_portInLo (s : State) : (s.serviceTaken).portInLo = s.portInLo := by unfold State.serviceTaken; split <;> rfl
@[simp] theorem serviceTaken_portInHi (s : State) : (s.serviceTaken).portInHi = s.portInHi := by unfold State.serviceTaken; split <;> rfl
@[simp] theorem serviceTaken_motorState (s : State) : (s.serviceTaken).motorState = s.motorState := by unfold State.serviceTaken; split <;> rfl
@[simp] theorem serviceTaken_rxState (s : State) : (s.serviceTaken).rxState = s.rxState := by unfold State.serviceTaken; split <;> rfl
@[simp] theorem serviceTaken_buf (s : State) : (s.serviceTaken).buf = s.buf := by unfold State.serviceTaken; split <;> rfl
@[simp] theorem serviceTaken_pos (s : State) : (s.serviceTaken).pos = s.pos := by unfold State.serviceTaken; split <;> rfl
@[simp] theorem serviceTaken_rxLen (s : State) : (s.serviceTaken).rxLen = s.rxLen := by unfold State.serviceTaken; split <;> rfl
@[simp] theorem serviceTaken_handler (s : State) : (s.serviceTaken).handler = s.handler := by unfold State.serviceTaken; split <;> rfl
@[simp] theorem serviceTaken_tx (s : State) : (s.serviceTaken).tx = s.tx := by unfold State.serviceTaken; split <;> rfl
@[simp] theorem serviceTaken_trace (s : State) : (s.serviceTaken).trace = s.trace := by unfold State.serviceTaken; split <;> rfl
@[simp] theorem serviceTaken_fault (s : State) : (s.serviceTaken).fault = s.fault := by unfold State.serviceTaken; split <;> rfl
@[simp] theorem serviceTaken_params (s : State) : (s.serviceTaken).params = s.params := by unfold State.serviceTaken; split <;> rfl
@[simp] theorem serviceTaken_answersDI (s : State) : (s.serviceTaken).answersDI = s.answersDI := by unfold State.serviceTaken; split <;> rfl
@[simp] theorem serviceTaken_answersEnabled (s : State) : (s.serviceTaken).answersEnabled = s.answersEnabled := by unfold State.serviceTaken; split <;> rfl
@[simp] theorem serviceTaken_handlerRuns (s : State) : (s.serviceTaken).handlerRuns = s.handlerRuns := by unfold State.serviceTaken; split <;> rfl
@[simp] theorem serviceTaken_agenda (s : State) : (s.serviceTaken).agenda = s.agenda := by unfold State.serviceTaken; split <;> rfl
@[simp] theorem serviceTaken_ret (s : State) : (s.serviceTaken).ret = s.ret := by unfold State.serviceTaken; split <;> rfl
@[simp] theorem serviceTaken_rxCause (s : State) : (s.serviceTaken).rxCause = s.rxCause := by unfold State.serviceTaken; split <;> rfl

/-! ### enabledTaken -/

@[simp] theorem enabledTaken_idx (s : State) : (s.enabledTaken).idx = s.idx := by unfold State.enabledTaken; split <;> rfl
@[simp] theorem enabledTaken_a (s : State) : (s.enabledTaken).a = s.a := by unfold State.enabledTaken; split <;> rfl
@[simp] theorem enabledTaken_nIOW (s : State) : (s.enabledTaken).nIOW = s.nIOW := by unfold State.enabledTaken; split <;> rfl
@[simp] theorem enabledTaken_nIOR (s : State) : (s.enabledTaken).nIOR = s.nIOR := by unfold State.enabledTaken; split <;> rfl
@[simp] theorem enabledTaken_dout (s : State) : (s.enabledTaken).dout = s.dout := by unfold State.enabledTaken; split <;> rfl
@[simp] theorem enabledTaken_portOut (s : State) : (s.enabledTaken).portOut = s.portOut := by unfold State.enabledTaken; split <;> rfl
@[simp] theorem enabledTaken_portInLo (s : State) : (s.enabledTaken).portInLo = s.portInLo := by unfold State.enabledTaken; split <;> rfl
@[simp] theorem enabledTaken_portInHi (s : State) : (s.enabledTaken).portInHi = s.portInHi := by unfold State.enabledTaken; split <;> rfl
@[simp] theorem enabledTaken_motorState (s : State) : (s.enabledTaken).motorState = s.motorState := by unfold State.enabledTaken; split <;> rfl
@[simp] theorem enabledTaken_rxState (s : State) : (s.enabledTaken).rxState = s.rxState := by unfold State.enabledTaken; split <;> rfl
@[simp] theorem enabledTaken_buf (s : State) : (s.enabledTaken).buf = s.buf := by unfold State.enabledTaken; split <;> rfl
@[simp] theorem enabledTaken_pos (s : State) : (s.enabledTaken).pos = s.pos := by unfold State.enabledTaken; split <;> rfl
@[simp] theorem enabledTaken_rxLen (s : State) : (s.enabledTaken).rxLen = s.rxLen := by unfold State.enabledTaken; split <;> rfl
@[simp] theorem enabledTaken_handler (s : State) : (s.enabledTaken).handler = s.handler := by unfold State.enabledTaken; split <;> rfl
@[simp] theorem enabledTaken_tx (s : State) : (s.enabledTaken).tx = s.tx := by unfold State.enabledTaken; split <;> rfl
@[simp] theorem enabledTaken_trace (s : State) : (s.enabledTaken).trace = s.trace := by unfold State.enabledTaken; split <;> rfl
@[simp] theorem enabledTaken_fault (s : State) : (s.enabledTaken).fault = s.fault := by unfold State.enabledTaken; split <;> rfl
@[simp] theorem enabledTaken_params (s : State) : (s.enabledTaken).params = s.params := by unfold State.enabledTaken; split <;> rfl
@[simp] theorem enabledTaken_answersDI (s : State) : (s.enabledTaken).answersDI = s.answersDI := by unfold State.enabledTaken; split <;> rfl
@[simp] theorem enabledTaken_answersService (s : State) : (s.enabledTaken).answersService = s.answersService := by unfold State.enabledTaken; split <;> rfl
@[simp] theorem enabledTaken_handlerRuns (s : State) : (s.enabledTaken).handlerRuns = s.handlerRuns := by unfold State.enabledTaken; split <;> rfl
@[simp] theorem enabledTaken_agenda (s : State) : (s.enabledTaken).agenda = s.agenda := by unfold State.enabledTaken; split <;> rfl
@[simp] theorem enabledTaken_ret (s : State) : (s.enabledTaken).ret = s.ret := by unfold State.enabledTaken; split <;> rfl
@[simp] theorem enabledTaken_rxCause (s : State) : (s.enabledTaken).rxCause = s.rxCause := by unfold State.enabledTaken; split <;> rfl

end Sys2Proof.Machine
end

