-- ==== Sys2Proof/Laws/Memory.lean ====
section
/-! SUPPORT. The receive buffer's canonical form: every write inside the buffer keeps it (10_state.md R30, 20_memory.md R60). -/

namespace Sys2Proof.Machine

theorem wfFrom_weaken {lo lo' : Nat} (h : lo' ≤ lo) : {m : Memory} → Memory.wfFrom lo m = true → Memory.wfFrom lo' m = true
  | [], _ => rfl
  | (k, v) :: m, hm => by
      simp only [Memory.wfFrom, Bool.and_eq_true, decide_eq_true_eq] at hm ⊢
      exact ⟨⟨⟨Nat.le_trans h hm.1.1.1, hm.1.1.2⟩, hm.1.2⟩, hm.2⟩

theorem erase_wfFrom {lo : Nat} (i : Nat) : {m : Memory} → Memory.wfFrom lo m = true →
    Memory.wfFrom lo (Memory.erase m i) = true
  | [], _ => rfl
  | (k, v) :: m, hm => by
      simp only [Memory.wfFrom, Bool.and_eq_true, decide_eq_true_eq] at hm
      unfold Memory.erase
      split
      · exact wfFrom_weaken (by omega) hm.2
      · simp only [Memory.wfFrom, Bool.and_eq_true, decide_eq_true_eq]
        exact ⟨hm.1, erase_wfFrom i hm.2⟩

theorem insert_wfFrom {lo i : Nat} {b : Byte} (hlo : lo ≤ i) (hi : i < bufferSize) (hb : (b != unlistedByte) = true) :
    {m : Memory} → Memory.wfFrom lo m = true → Memory.wfFrom lo (Memory.insert m i b) = true
  | [], _ => by
      simp only [Memory.insert, Memory.wfFrom, Bool.and_eq_true, decide_eq_true_eq]
      exact ⟨⟨⟨hlo, hi⟩, hb⟩, trivial⟩
  | (k, v) :: m, hm => by
      simp only [Memory.wfFrom, Bool.and_eq_true, decide_eq_true_eq] at hm
      unfold Memory.insert
      split
      · simp only [Memory.wfFrom, Bool.and_eq_true, decide_eq_true_eq]
        exact ⟨⟨⟨hlo, hi⟩, hb⟩, ⟨⟨by omega, hm.1.1.2⟩, hm.1.2⟩, hm.2⟩
      · split
        · simp only [Memory.wfFrom, Bool.and_eq_true, decide_eq_true_eq]
          rename_i hk
          subst hk
          exact ⟨⟨⟨hlo, hi⟩, hb⟩, hm.2⟩
        · simp only [Memory.wfFrom, Bool.and_eq_true, decide_eq_true_eq]
          exact ⟨hm.1, insert_wfFrom (by omega) hi hb hm.2⟩

/-- A write inside the buffer keeps the canonical form. -/
theorem write_wf {m : Memory} {i : Nat} (b : Byte) (hi : i < bufferSize) (hm : m.wf = true) : (m.write i b).wf = true := by
  unfold Memory.write
  split
  · exact erase_wfFrom i hm
  · exact insert_wfFrom (Nat.zero_le i) hi (by simpa using ‹¬b = unlistedByte›) hm

/-- `bufWrite` keeps the canonical form, whatever the offset. -/
theorem bufWrite_wf {s : State} (i : Nat) (b : Byte) (hm : s.buf.wf = true) : (s.bufWrite i b).buf.wf = true := by
  unfold State.bufWrite
  split
  · exact write_wf b ‹_› hm
  · simpa using hm

/-- The buffer after reset has the canonical form. -/
theorem reset_buf_wf : State.reset.buf.wf = true := by decide

end Sys2Proof.Machine
end

