-- ==== Sys2Proof/Laws/Ops.lean ====
section
/-! SUPPORT. Each shared operation once, as a rule to rewrite with or as the cases of what it can do. -/

namespace Sys2Proof.Machine

/-! ### The frame around a meaning -/

theorem perform_next {s : State} (f : State → State) (h : s.fault = none) : perform s f = .next (f s) := by
  simp [perform, h]

theorem perform_fault {s : State} {r : Fault} (f : State → State) (h : s.fault = some r) : perform s f = .fault r := by
  simp [perform, h]

/-- If an operation answers a next state, there was no fault and the state is its effect. -/
theorem perform_cases {s t : State} {f : State → State} (h : perform s f = .next t) : s.fault = none ∧ t = f s := by
  unfold perform at h
  split at h
  · exact ⟨‹_›, by simpa using h.symm⟩
  · cases h

/-- If a named transition answers a next state, there was no fault, the receiver was in its state, and the state is its
rule's effect. -/
theorem rxTransition_cases {key : RxState} {b : Byte} {s t : State} (h : rxTransition key b s = .next t) :
    s.fault = none ∧ s.rxState = key ∧ t = rxRule key b s := by
  unfold rxTransition at h
  split at h
  · cases h
  · split at h
    · exact ⟨‹_›, ‹_›, by simpa using h.symm⟩
    · cases h

theorem andThen_of_none {s : State} (f : State → State) (h : s.fault = none) : s.andThen f = f s := by
  simp [State.andThen, h]

theorem andThen_of_some {s : State} {r : Fault} (f : State → State) (h : s.fault = some r) : s.andThen f = s := by
  simp [State.andThen, h]

/-- Going on does the rest, or stands still at a fault. -/
theorem andThen_cases (s : State) (f : State → State) : s.andThen f = f s ∨ (s.andThen f = s ∧ s.fault ≠ none) := by
  unfold State.andThen
  split
  · exact .inl rfl
  · exact .inr ⟨rfl, by simp [*]⟩

theorem raise_of_none {s : State} (r : Fault) (h : s.fault = none) : s.raise r = { s with fault := some r } := by
  simp [State.raise, h]

theorem bufWrite_inside {s : State} {i : Nat} (b : Byte) (h : i < bufferSize) :
    s.bufWrite i b = { s with buf := s.buf.write i b } := by
  simp [State.bufWrite, h]

theorem bufWrite_outside {s : State} {i : Nat} (b : Byte) (h : ¬i < bufferSize) :
    s.bufWrite i b = s.raise (.bufferRange i) := by
  simp [State.bufWrite, h]

/-! ### The AddressBus layer and its users -/

/-- SELECT raises its fault or drives the lines. -/
theorem selectAddress_cases (address : Byte) (s : State) :
    (7 < address.toNat ∧ selectAddress address s = s.raise (.selectRange address)) ∨
    (address.toNat ≤ 7 ∧ selectAddress address s = driveAddress (address.setWidth 3) s) := by
  unfold selectAddress
  split
  · exact .inl ⟨‹_›, rfl⟩
  · exact .inr ⟨by omega, rfl⟩

/-- A sample appends one event and takes one draw. -/
theorem sampleInput_eq (s : State) :
    sampleInput s = { s.sampleTaken with trace := s.trace ++ [.sample s.a s.sampleAnswer] } := by
  simp [sampleInput, State.emit]

/-- A re-enable makes the two calls, or, gated with the flag clear, asks the flag only. -/
theorem reenable_cases (i : Axis) (s : State) :
    (s.params.reenableGated = false ∧ reenable i s = reenableCalls i s) ∨
    (s.params.reenableGated = true ∧ s.enabledAnswer = true ∧ reenable i s = reenableCalls i s.enabledTaken) ∨
    (s.params.reenableGated = true ∧ s.enabledAnswer = false ∧ reenable i s = s.enabledTaken) := by
  unfold reenable
  cases hg : s.params.reenableGated <;> cases he : s.enabledAnswer <;> simp

/-- SERVICE_AXIS writes one flag and the output lines and appends one event. -/
theorem service_eq (i : Axis) (s : State) :
    service i s =
      { s.serviceTaken with
        motorState := setMoving s.motorState i (s.serviceAnswer i).1
        dout := (s.serviceAnswer i).2
        trace := s.trace ++ [.axService i (s.serviceAnswer i).1 (s.serviceAnswer i).2] } := by
  simp [service, State.emit]

/-- PORTA_SERVICE_LO: the sample goes to `portInLo`, the low output nibble to the lines, two events. -/
theorem servicePortLo_eq (s : State) :
    servicePortLo s =
      { s.sampleTaken with
        portInLo := s.sampleAnswer
        dout := lowNibble (zextNibble (lowNibble s.portOut))
        trace := s.trace ++ [.sample s.a s.sampleAnswer] ++ [.out (lowNibble (zextNibble (lowNibble s.portOut)))] } := by
  simp [servicePortLo, sampleInput, driveOutput, State.emit]

/-- PORTA_SERVICE_HI: the sample goes to `portInHi`, the high output nibble to the lines, two events. -/
theorem servicePortHi_eq (s : State) :
    servicePortHi s =
      { s.sampleTaken with
        portInHi := s.sampleAnswer
        dout := lowNibble (highNibbleShifted s.portOut)
        trace := s.trace ++ [.sample s.a s.sampleAnswer] ++ [.out (lowNibble (highNibbleShifted s.portOut))] } := by
  simp [servicePortHi, sampleInput, driveOutput, State.emit]

/-! ### Codec and sending -/

/-- ENCODE_REQUEST gives its frame exactly within its limits. -/
theorem encodeRequestBytes_cases (opcode : Byte) (payload : List Byte) (n : Nat) :
    (n = payload.length ∧ n ≤ 26 ∧ encodeRequestBytes opcode payload n = .ok (requestFrame opcode payload n)) ∨
    ((n ≠ payload.length ∨ 26 < n) ∧ encodeRequestBytes opcode payload n = .error (.encodeLength n)) := by
  unfold encodeRequestBytes
  split
  · exact .inr ⟨‹_›, rfl⟩
  · exact .inl ⟨by omega, by omega, rfl⟩

/-- ENCODE_RESPONSE gives its frame exactly within its limits. -/
theorem encodeResponseBytes_cases (opcode status : Byte) (payload : List Byte) (n : Nat) :
    (n = payload.length ∧ n ≤ 25 ∧ encodeResponseBytes opcode status payload n = .ok (responseFrame opcode status payload n)) ∨
    ((n ≠ payload.length ∨ 25 < n) ∧ encodeResponseBytes opcode status payload n = .error (.encodeLength n)) := by
  unfold encodeResponseBytes
  split
  · exact .inr ⟨‹_›, rfl⟩
  · exact .inl ⟨by omega, by omega, rfl⟩

/-- VALIDATE rejects a length, raises on a short buffer, or gives the checks' verdict. -/
theorem validateBytes_cases (buf : List Byte) (total : Nat) :
    ((total < 6 ∨ 32 < total) ∧ validateBytes buf total = .ok .lenRange) ∨
    ((6 ≤ total ∧ total ≤ 32) ∧ buf.length < total ∧ validateBytes buf total = .error .validateShortBuffer) ∨
    ((6 ≤ total ∧ total ≤ 32) ∧ total ≤ buf.length ∧ validateBytes buf total = .ok (frameVerdict buf total)) := by
  unfold validateBytes
  split
  · exact .inl ⟨‹_›, rfl⟩
  · split
    · exact .inr (.inl ⟨by omega, ‹_›, rfl⟩)
    · exact .inr (.inr ⟨by omega, by omega, rfl⟩)

/-- SEND_RESPONSE appends one whole frame or raises its fault. -/
theorem sendResponse_cases (opcode status : Byte) (payload : List Byte) (n : Nat) (s : State) :
    (n = payload.length ∧ n ≤ 25 ∧ sendResponse opcode status payload n s = s.send (responseFrame opcode status payload n)) ∨
    ((n ≠ payload.length ∨ 25 < n) ∧ sendResponse opcode status payload n s = s.raise (.encodeLength n)) := by
  unfold sendResponse
  rcases encodeResponseBytes_cases opcode status payload n with ⟨h, h', e⟩ | ⟨h, e⟩
  · exact .inl ⟨h, h', by rw [e]⟩
  · exact .inr ⟨h, by rw [e]⟩

/-! ### Dispatch and the receiver -/

/-- DISPATCH calls the handler, raises on a payload past the buffer, or does nothing. -/
theorem dispatch_cases (s : State) :
    (s.buf.read 1 = typeRequest ∧ s.handler.isSome = true ∧ 4 + dataCount s.rxLen ≤ bufferSize ∧
      dispatch s = handRequest (s.buf.read 3) s.rxLen (s.buf.slice 4 (dataCount s.rxLen)) s) ∨
    (s.buf.read 1 = typeRequest ∧ s.handler.isSome = true ∧ ¬4 + dataCount s.rxLen ≤ bufferSize ∧
      dispatch s = s.raise (.bufferRange (3 + dataCount s.rxLen))) ∨
    (¬(s.buf.read 1 = typeRequest ∧ s.handler.isSome = true) ∧ dispatch s = s) := by
  unfold dispatch
  split
  · split
    · exact .inl ⟨by simp_all, by simp_all, ‹_›, rfl⟩
    · exact .inr (.inl ⟨by simp_all, by simp_all, ‹_›, rfl⟩)
  · exact .inr (.inr ⟨‹_›, rfl⟩)

/-- Handing a request over: nothing without a handler, else the event and the handler's run. -/
theorem handRequest_cases (op len : Byte) (payload : List Byte) (s : State) :
    (s.handler = none ∧ handRequest op len payload s = s) ∨
    (∃ h, s.handler = some h ∧ handRequest op len payload s =
      runHandler h { op := op, len := len, payload := payload, run := s.handlerRuns, replies := [] }
        (s.emit (.dispatch op len payload)).handlerEntered) := by
  unfold handRequest
  split
  · exact .inl ⟨‹_›, rfl⟩
  · exact .inr ⟨_, ‹_›, rfl⟩

/-- A call of a handler stores the output byte, sends a frame, raises a fault, or changes nothing (45_receiver.md R239). -/
theorem callEffect_cases (x : HandlerView) (k : HandlerCall) (s : State) :
    (∃ b, callEffect x k s = storeOutput b s) ∨ (∃ f, callEffect x k s = s.send f) ∨
    (∃ r, callEffect x k s = s.raise r) ∨ callEffect x k s = s := by
  have raised {α : Type} (e : Except Fault α) : (∃ r, s.raiseOf e = s.raise r) ∨ s.raiseOf e = s := by
    cases e with
    | ok _ => exact .inr rfl
    | error r => exact .inl ⟨r, rfl⟩
  cases k with
  | setOutput b => exact .inl ⟨_, rfl⟩
  | sendResponse opcode status data n =>
      rcases sendResponse_cases (evalByte x opcode) (evalByte x status) (evalBytes x data) (evalNum x n) s with
        ⟨_, _, e⟩ | ⟨_, e⟩
      · exact .inr (.inl ⟨_, e⟩)
      · exact .inr (.inr (.inl ⟨_, e⟩))
  | encodeRequest opcode data n => exact .inr (.inr (raised _))
  | encodeResponse opcode status data n => exact .inr (.inr (raised _))
  | validate buf total => exact .inr (.inr (raised _))
  | tick => exact .inr (.inr (.inl ⟨_, rfl⟩))
  | rxByte b => exact .inr (.inr (.inl ⟨_, rfl⟩))
  | getInput => exact .inr (.inr (.inr rfl))
  | readMotorState => exact .inr (.inr (.inr rfl))
  | checksum region => exact .inr (.inr (.inr rfl))
  | decode frame => exact .inr (.inr (.inr rfl))
  | motion m => exact .inr (.inr (.inr rfl))

/-- The completion of a frame: DISPATCH or the discard, then Sentinel unless a fault was raised. -/
theorem completeFrame_cases (s : State) :
    (completeFrame s = (dispatch s).andThen toSentinel ∧
      checksum (s.buf.slice 0 (totalLength s.rxLen - 2)) =
        (s.buf.read (totalLength s.rxLen - 2), s.buf.read (totalLength s.rxLen - 1))) ∨
    (completeFrame s = (s.discard .badChecksum).andThen toSentinel ∧
      checksum (s.buf.slice 0 (totalLength s.rxLen - 2)) ≠
        (s.buf.read (totalLength s.rxLen - 2), s.buf.read (totalLength s.rxLen - 1))) := by
  unfold completeFrame
  by_cases h : checksum (s.buf.slice 0 (totalLength s.rxLen - 2)) =
      (s.buf.read (totalLength s.rxLen - 2), s.buf.read (totalLength s.rxLen - 1))
  · exact .inl ⟨by simp [h], h⟩
  · exact .inr ⟨by simp [h], h⟩

end Sys2Proof.Machine
end

