-- ==== Sys2Proof/Laws/PerInstr.lean ====
section
/-! SUPPORT. The per-instruction family `MatchesTable`: the word the encoder writes has the bits that the instruction's row of
spec/opcode_table.json fixes (its match under its mask). -/

namespace Sys2Proof.Laws

/-- The row of spec/opcode_table.json of an instruction: its match and its mask. -/
def tableRow : Instr → OpWord × OpWord
  | .select _ => (0x0100, 0xFF00)
  | .strobeWrite => (0x0200, 0xFFFF)
  | .strobeRead => (0x0300, 0xFFFF)
  | .readInputNibble => (0x0400, 0xFFFF)
  | .writeOutputNibble _ => (0x0500, 0xFF00)
  | .tick => (0x1000, 0xFFFF)
  | .axisSlot _ => (0x1100, 0xFF00)
  | .portSlot _ => (0x1200, 0xFF00)
  | .axisReenable _ => (0x1800, 0xFF00)
  | .serviceAxis _ => (0x1900, 0xFF00)
  | .readMotorState => (0x1A00, 0xFFFF)
  | .portaServiceLo => (0x2006, 0xFFFF)
  | .portaServiceHi => (0x2107, 0xFFFF)
  | .setOutput _ => (0x2200, 0xFF00)
  | .getInput => (0x2300, 0xFFFF)
  | .checksum _ => (0x3000, 0xFFFF)
  | .encodeRequest _ _ _ => (0x3100, 0xFF00)
  | .encodeResponse _ _ _ _ => (0x3200, 0xFF00)
  | .validate _ _ => (0x3300, 0xFFFF)
  | .decodeFrame _ => (0x3400, 0xFFFF)
  | .rxByte _ => (0x4000, 0xFF00)
  | .dispatch => (0x4600, 0xFFFF)
  | .sendResponse _ _ _ _ => (0x4700, 0xFF00)
  | .registerHandler _ => (0x4800, 0xFFFF)
  | .rxSentinel _ => (0x0000, 0x0700)
  | .rxTypeByte _ => (0x0100, 0x0700)
  | .rxLengthByte _ => (0x0200, 0x0700)
  | .rxOpCodeByte _ => (0x0300, 0x0700)
  | .rxDataBytes _ => (0x0400, 0x0700)
  | .rxChecksumBytes _ => (0x0500, 0x0700)
  | .slotAxis0 => (0x0000, 0x0007)
  | .slotAxis1 => (0x0001, 0x0007)
  | .slotAxis2 => (0x0002, 0x0007)
  | .slotAxis3 => (0x0003, 0x0007)
  | .slotAxis4 => (0x0004, 0x0007)
  | .slotAxis5 => (0x0005, 0x0007)
  | .slotPortaLo => (0x0006, 0x0007)
  | .slotPortaHi => (0x0007, 0x0007)
  | .frameRequest _ _ => (0xAA01, 0xFFFF)
  | .frameResponse _ _ => (0xAA02, 0xFFFF)
  | .appPing _ => (0x0001, 0x00FF)
  | .appStop _ => (0x0002, 0x00FF)
  | .appDisable _ => (0x0003, 0x00FF)
  | .appEnable _ => (0x0004, 0x00FF)
  | .appClear _ => (0x0005, 0x00FF)
  | .appMoveRelative _ => (0x0006, 0x00FF)
  | .appMoveAbsolute _ => (0x0007, 0x00FF)
  | .appSetPortA _ => (0x0008, 0x00FF)
  | .appGetPortA _ => (0x0009, 0x00FF)
  | .appIsMoving _ => (0x000A, 0x00FF)
  | .appGetCurrentPosition _ => (0x000B, 0x00FF)
  | .appMoveAtSpeed _ => (0x000C, 0x00FF)
  | .appSetRobotID _ => (0x000D, 0x00FF)
  | .appGetRobotID _ => (0x000E, 0x00FF)
  | .appSavePosition _ => (0x000F, 0x00FF)
  | .appLoadPosition _ => (0x0010, 0x00FF)

/-- The encoder's word has the bits the row fixes. -/
def MatchesTable.Statement (i : Instr) : Prop := (encode i).word &&& (tableRow i).2 = (tableRow i).1

theorem MatchesTable.select (address : Byte) : MatchesTable.Statement (.select address) :=
  (joinBytes_and_opid _ _).trans rfl

theorem MatchesTable.strobeWrite : MatchesTable.Statement (.strobeWrite) :=
  (by decide : joinBytes 0x02#8 0x00#8 &&& 0xFFFF#16 = 0x0200#16)

theorem MatchesTable.strobeRead : MatchesTable.Statement (.strobeRead) :=
  (by decide : joinBytes 0x03#8 0x00#8 &&& 0xFFFF#16 = 0x0300#16)

theorem MatchesTable.readInputNibble : MatchesTable.Statement (.readInputNibble) :=
  (by decide : joinBytes 0x04#8 0x00#8 &&& 0xFFFF#16 = 0x0400#16)

theorem MatchesTable.writeOutputNibble (value : Byte) : MatchesTable.Statement (.writeOutputNibble value) :=
  (joinBytes_and_opid _ _).trans rfl

theorem MatchesTable.tick : MatchesTable.Statement (.tick) :=
  (by decide : joinBytes 0x10#8 0x00#8 &&& 0xFFFF#16 = 0x1000#16)

theorem MatchesTable.axisSlot (k : Axis) : MatchesTable.Statement (.axisSlot k) :=
  (joinBytes_and_opid _ _).trans rfl

theorem MatchesTable.portSlot (k : PortNibble) : MatchesTable.Statement (.portSlot k) :=
  (joinBytes_and_opid _ _).trans rfl

theorem MatchesTable.axisReenable (k : Axis) : MatchesTable.Statement (.axisReenable k) :=
  (joinBytes_and_opid _ _).trans rfl

theorem MatchesTable.serviceAxis (k : Axis) : MatchesTable.Statement (.serviceAxis k) :=
  (joinBytes_and_opid _ _).trans rfl

theorem MatchesTable.readMotorState : MatchesTable.Statement (.readMotorState) :=
  (by decide : joinBytes 0x1A#8 0x00#8 &&& 0xFFFF#16 = 0x1A00#16)

theorem MatchesTable.portaServiceLo : MatchesTable.Statement (.portaServiceLo) :=
  (by decide : joinBytes 0x20#8 0x06#8 &&& 0xFFFF#16 = 0x2006#16)

theorem MatchesTable.portaServiceHi : MatchesTable.Statement (.portaServiceHi) :=
  (by decide : joinBytes 0x21#8 0x07#8 &&& 0xFFFF#16 = 0x2107#16)

theorem MatchesTable.setOutput (b : Byte) : MatchesTable.Statement (.setOutput b) :=
  (joinBytes_and_opid _ _).trans rfl

theorem MatchesTable.getInput : MatchesTable.Statement (.getInput) :=
  (by decide : joinBytes 0x23#8 0x00#8 &&& 0xFFFF#16 = 0x2300#16)

theorem MatchesTable.checksum (region : List Byte) : MatchesTable.Statement (.checksum region) :=
  (by decide : joinBytes 0x30#8 0x00#8 &&& 0xFFFF#16 = 0x3000#16)

theorem MatchesTable.encodeRequest (opcode : Byte) (payload : List Byte) (n : Nat) : MatchesTable.Statement (.encodeRequest opcode payload n) :=
  (joinBytes_and_opid _ _).trans rfl

theorem MatchesTable.encodeResponse (opcode : Byte) (status : Byte) (payload : List Byte) (n : Nat) : MatchesTable.Statement (.encodeResponse opcode status payload n) :=
  (joinBytes_and_opid _ _).trans rfl

theorem MatchesTable.validate (buf : List Byte) (total : Nat) : MatchesTable.Statement (.validate buf total) :=
  (by decide : joinBytes 0x33#8 0x00#8 &&& 0xFFFF#16 = 0x3300#16)

theorem MatchesTable.decodeFrame (frame : List Byte) : MatchesTable.Statement (.decodeFrame frame) :=
  (by decide : joinBytes 0x34#8 0x00#8 &&& 0xFFFF#16 = 0x3400#16)

theorem MatchesTable.rxByte (b : Byte) : MatchesTable.Statement (.rxByte b) :=
  (joinBytes_and_opid _ _).trans rfl

theorem MatchesTable.dispatch : MatchesTable.Statement (.dispatch) :=
  (by decide : joinBytes 0x46#8 0x00#8 &&& 0xFFFF#16 = 0x4600#16)

theorem MatchesTable.sendResponse (opcode : Byte) (status : Byte) (payload : List Byte) (n : Nat) : MatchesTable.Statement (.sendResponse opcode status payload n) :=
  (joinBytes_and_opid _ _).trans rfl

theorem MatchesTable.registerHandler (h : Handler) : MatchesTable.Statement (.registerHandler h) :=
  (by decide : joinBytes 0x48#8 0x00#8 &&& 0xFFFF#16 = 0x4800#16)

theorem MatchesTable.rxSentinel (b : Byte) : MatchesTable.Statement (.rxSentinel b) :=
  (joinBytes_and_code _ _).trans rfl

theorem MatchesTable.rxTypeByte (b : Byte) : MatchesTable.Statement (.rxTypeByte b) :=
  (joinBytes_and_code _ _).trans rfl

theorem MatchesTable.rxLengthByte (b : Byte) : MatchesTable.Statement (.rxLengthByte b) :=
  (joinBytes_and_code _ _).trans rfl

theorem MatchesTable.rxOpCodeByte (b : Byte) : MatchesTable.Statement (.rxOpCodeByte b) :=
  (joinBytes_and_code _ _).trans rfl

theorem MatchesTable.rxDataBytes (b : Byte) : MatchesTable.Statement (.rxDataBytes b) :=
  (joinBytes_and_code _ _).trans rfl

theorem MatchesTable.rxChecksumBytes (b : Byte) : MatchesTable.Statement (.rxChecksumBytes b) :=
  (joinBytes_and_code _ _).trans rfl

theorem MatchesTable.slotAxis0 : MatchesTable.Statement (.slotAxis0) :=
  (by decide : BitVec.setWidth 16 0x00#3 &&& 0x0007#16 = 0x0000#16)

theorem MatchesTable.slotAxis1 : MatchesTable.Statement (.slotAxis1) :=
  (by decide : BitVec.setWidth 16 0x01#3 &&& 0x0007#16 = 0x0001#16)

theorem MatchesTable.slotAxis2 : MatchesTable.Statement (.slotAxis2) :=
  (by decide : BitVec.setWidth 16 0x02#3 &&& 0x0007#16 = 0x0002#16)

theorem MatchesTable.slotAxis3 : MatchesTable.Statement (.slotAxis3) :=
  (by decide : BitVec.setWidth 16 0x03#3 &&& 0x0007#16 = 0x0003#16)

theorem MatchesTable.slotAxis4 : MatchesTable.Statement (.slotAxis4) :=
  (by decide : BitVec.setWidth 16 0x04#3 &&& 0x0007#16 = 0x0004#16)

theorem MatchesTable.slotAxis5 : MatchesTable.Statement (.slotAxis5) :=
  (by decide : BitVec.setWidth 16 0x05#3 &&& 0x0007#16 = 0x0005#16)

theorem MatchesTable.slotPortaLo : MatchesTable.Statement (.slotPortaLo) :=
  (by decide : BitVec.setWidth 16 0x06#3 &&& 0x0007#16 = 0x0006#16)

theorem MatchesTable.slotPortaHi : MatchesTable.Statement (.slotPortaHi) :=
  (by decide : BitVec.setWidth 16 0x07#3 &&& 0x0007#16 = 0x0007#16)

theorem MatchesTable.frameRequest (len : Byte) (body : List Byte) : MatchesTable.Statement (.frameRequest len body) :=
  (by decide : joinBytes 0xAA#8 0x01#8 &&& 0xFFFF#16 = 0xAA01#16)

theorem MatchesTable.frameResponse (len : Byte) (body : List Byte) : MatchesTable.Statement (.frameResponse len body) :=
  (by decide : joinBytes 0xAA#8 0x02#8 &&& 0xFFFF#16 = 0xAA02#16)

theorem MatchesTable.appPing (payload : List Byte) : MatchesTable.Statement (.appPing payload) :=
  (by decide : BitVec.setWidth 16 0x01#8 &&& 0x00FF#16 = 0x0001#16)

theorem MatchesTable.appStop (payload : List Byte) : MatchesTable.Statement (.appStop payload) :=
  (by decide : BitVec.setWidth 16 0x02#8 &&& 0x00FF#16 = 0x0002#16)

theorem MatchesTable.appDisable (payload : List Byte) : MatchesTable.Statement (.appDisable payload) :=
  (by decide : BitVec.setWidth 16 0x03#8 &&& 0x00FF#16 = 0x0003#16)

theorem MatchesTable.appEnable (payload : List Byte) : MatchesTable.Statement (.appEnable payload) :=
  (by decide : BitVec.setWidth 16 0x04#8 &&& 0x00FF#16 = 0x0004#16)

theorem MatchesTable.appClear (payload : List Byte) : MatchesTable.Statement (.appClear payload) :=
  (by decide : BitVec.setWidth 16 0x05#8 &&& 0x00FF#16 = 0x0005#16)

theorem MatchesTable.appMoveRelative (payload : List Byte) : MatchesTable.Statement (.appMoveRelative payload) :=
  (by decide : BitVec.setWidth 16 0x06#8 &&& 0x00FF#16 = 0x0006#16)

theorem MatchesTable.appMoveAbsolute (payload : List Byte) : MatchesTable.Statement (.appMoveAbsolute payload) :=
  (by decide : BitVec.setWidth 16 0x07#8 &&& 0x00FF#16 = 0x0007#16)

theorem MatchesTable.appSetPortA (payload : List Byte) : MatchesTable.Statement (.appSetPortA payload) :=
  (by decide : BitVec.setWidth 16 0x08#8 &&& 0x00FF#16 = 0x0008#16)

theorem MatchesTable.appGetPortA (payload : List Byte) : MatchesTable.Statement (.appGetPortA payload) :=
  (by decide : BitVec.setWidth 16 0x09#8 &&& 0x00FF#16 = 0x0009#16)

theorem MatchesTable.appIsMoving (payload : List Byte) : MatchesTable.Statement (.appIsMoving payload) :=
  (by decide : BitVec.setWidth 16 0x0A#8 &&& 0x00FF#16 = 0x000A#16)

theorem MatchesTable.appGetCurrentPosition (payload : List Byte) : MatchesTable.Statement (.appGetCurrentPosition payload) :=
  (by decide : BitVec.setWidth 16 0x0B#8 &&& 0x00FF#16 = 0x000B#16)

theorem MatchesTable.appMoveAtSpeed (payload : List Byte) : MatchesTable.Statement (.appMoveAtSpeed payload) :=
  (by decide : BitVec.setWidth 16 0x0C#8 &&& 0x00FF#16 = 0x000C#16)

theorem MatchesTable.appSetRobotID (payload : List Byte) : MatchesTable.Statement (.appSetRobotID payload) :=
  (by decide : BitVec.setWidth 16 0x0D#8 &&& 0x00FF#16 = 0x000D#16)

theorem MatchesTable.appGetRobotID (payload : List Byte) : MatchesTable.Statement (.appGetRobotID payload) :=
  (by decide : BitVec.setWidth 16 0x0E#8 &&& 0x00FF#16 = 0x000E#16)

theorem MatchesTable.appSavePosition (payload : List Byte) : MatchesTable.Statement (.appSavePosition payload) :=
  (by decide : BitVec.setWidth 16 0x0F#8 &&& 0x00FF#16 = 0x000F#16)

theorem MatchesTable.appLoadPosition (payload : List Byte) : MatchesTable.Statement (.appLoadPosition payload) :=
  (by decide : BitVec.setWidth 16 0x10#8 &&& 0x00FF#16 = 0x0010#16)

end Sys2Proof.Laws
end

