-- ==== Sys2Proof/Tests/Slice0.lean ====
section
/-! SUPPORT. Tests: the checks of WellFormed, one word written out for every constructor, the spec's vectors
(95_test_vectors.md, named in each comment), and witnesses for the hypotheses of the obligations. -/

namespace Sys2Proof.Tests

open Sys2Proof Sys2Proof.Machine

/-- A field of the next state, if there is one. -/
def look {α : Type} (f : State → α) : Host.Outcome State Fault Refusal → Option α
  | .next s => some (f s)
  | .fault _ => none
  | .refused _ => none

/-- The decoder refuses an entry. -/
def refuses (e : Entry) : Bool := !decodes e

/-- An operation word alone. -/
def word (w : OpWord) : Entry := { space := .opWord, word := w, fields := .zero }

/-- A received byte by its key. -/
def key (w : OpWord) : Entry := { space := .rxKey, word := w, fields := .zero }

/-- A frame by its header, its Length and what follows. -/
def frame (w : OpWord) (n : Nat) (body : List Byte) : Entry :=
  { space := .frameHeader, word := w, fields := { TermFields.zero with bytes := body, n := n } }

/-- A request by its opcode. -/
def request (w : OpWord) (payload : List Byte) : Entry :=
  { space := .requestOpcode, word := w, fields := { TermFields.zero with bytes := payload } }

/-- The reset state with a handler that returns at once. -/
def listening : State := { State.reset with handler := some .done }

/-- The receiver of the reset state put inside a frame. -/
def receiving (st : RxState) (pos : Nat) (len : Byte) (buf : Memory) : State :=
  { State.reset with rxState := st, pos := pos, rxLen := len, buf := buf }

/-! ### WellFormed: each check refuses an ill-formed term, and so does the decoder -/

theorem test_wf_frame_body_short : (Instr.frameRequest 1 [0x01, 0xAB]).wellFormed = false := by decide
theorem test_wf_frame_body_long : (Instr.frameResponse 1 [0x01, 0xAB, 0x03, 0x00]).wellFormed = false := by decide
theorem test_wf_frame_body_after_illegal_length : (Instr.frameRequest 28 [0x01]).wellFormed = false := by decide
theorem test_wf_request_payload : (Instr.appPing (List.replicate 27 0)).wellFormed = false := by decide
theorem test_wf_request_payload_limit : (Instr.appLoadPosition (List.replicate 26 0)).wellFormed = true := by decide
theorem test_wf_decoder_refuses_them :
    refuses (frame 0xAA01 1 [0x01, 0xAB]) = true ∧ refuses (frame 0xAA02 1 [0x01, 0xAB, 0x03, 0x00]) = true ∧
    refuses (frame 0xAA01 28 [0x01]) = true ∧ refuses (frame 0xAA01 257 [0x01, 0xAB, 0x00]) = true ∧
    refuses (request 0x01 (List.replicate 27 0)) = true := by decide
theorem test_decoder_refuses_reserved :
    refuses (word 0x0000) = true ∧ refuses (word 0x1106) = true ∧ refuses (word 0x1205) = true ∧
    refuses (word 0x1001) = true ∧ refuses (word 0x2007) = true ∧ refuses (key 0x0600) = true ∧
    refuses (frame 0xAA03 0 []) = true ∧ refuses (request 0x11 []) = true ∧
    refuses { space := .busAddress, word := 8, fields := .zero } = true := by decide

/-! ### Decoding: one word written out for every constructor (30_encoding.md R81, R84, R92, R97) -/

theorem test_decode_select : decode (word 0b0000000100000111) = .ok (.select 7) := rfl
theorem test_decode_strobeWrite : decode (word 0b0000001000000000) = .ok .strobeWrite := rfl
theorem test_decode_strobeRead : decode (word 0b0000001100000000) = .ok .strobeRead := rfl
theorem test_decode_readInputNibble : decode (word 0b0000010000000000) = .ok .readInputNibble := rfl
theorem test_decode_writeOutputNibble : decode (word 0b0000010110101011) = .ok (.writeOutputNibble 0xAB) := rfl
theorem test_decode_tick : decode (word 0b0001000000000000) = .ok .tick := rfl
theorem test_decode_axisSlot : decode (word 0b0001000100000101) = .ok (.axisSlot 5) := rfl
theorem test_decode_portSlot : decode (word 0b0001001000000110) = .ok (.portSlot .lo) := rfl
theorem test_decode_axisReenable : decode (word 0b0001100000000011) = .ok (.axisReenable 3) := rfl
theorem test_decode_serviceAxis : decode (word 0b0001100100000001) = .ok (.serviceAxis 1) := rfl
theorem test_decode_readMotorState : decode (word 0b0001101000000000) = .ok .readMotorState := rfl
theorem test_decode_portaServiceLo : decode (word 0b0010000000000110) = .ok .portaServiceLo := rfl
theorem test_decode_portaServiceHi : decode (word 0b0010000100000111) = .ok .portaServiceHi := rfl
theorem test_decode_setOutput : decode (word 0b0010001000111100) = .ok (.setOutput 0x3C) := rfl
theorem test_decode_getInput : decode (word 0b0010001100000000) = .ok .getInput := rfl
theorem test_decode_checksum :
    decode { space := .opWord, word := 0b0011000000000000, fields := { TermFields.zero with bytes := [0xAA, 0x01] } } =
      .ok (.checksum [0xAA, 0x01]) := rfl
theorem test_decode_encodeRequest :
    decode { space := .opWord, word := 0b0011000100001000, fields := { TermFields.zero with bytes := [0xAB], n := 1 } } =
      .ok (.encodeRequest 0x08 [0xAB] 1) := rfl
theorem test_decode_encodeResponse :
    decode { space := .opWord, word := 0b0011001000001001, fields := { TermFields.zero with bytes := [0x5A], status := 0x03, n := 1 } } =
      .ok (.encodeResponse 0x09 0x03 [0x5A] 1) := rfl
theorem test_decode_validate :
    decode { space := .opWord, word := 0b0011001100000000, fields := { TermFields.zero with bytes := [0xAA], n := 6 } } =
      .ok (.validate [0xAA] 6) := rfl
theorem test_decode_decodeFrame :
    decode { space := .opWord, word := 0b0011010000000000, fields := { TermFields.zero with bytes := [0xAA] } } =
      .ok (.decodeFrame [0xAA]) := rfl
theorem test_decode_rxByte : decode (word 0b0100000010101010) = .ok (.rxByte 0xAA) := rfl
theorem test_decode_dispatch : decode (word 0b0100011000000000) = .ok .dispatch := rfl
theorem test_decode_sendResponse :
    decode { space := .opWord, word := 0b0100011100001001, fields := { TermFields.zero with bytes := [0x5A], status := 0x03, n := 1 } } =
      .ok (.sendResponse 0x09 0x03 [0x5A] 1) := rfl
theorem test_decode_registerHandler :
    decode { space := .opWord, word := 0b0100100000000000, fields := { TermFields.zero with handler := .call .always .getInput .done } } =
      .ok (.registerHandler (.call .always .getInput .done)) := rfl
theorem test_decode_rxSentinel : decode (key 0b00000011011) = .ok (.rxSentinel 0x1B) := rfl
theorem test_decode_rxTypeByte : decode (key 0b00100011011) = .ok (.rxTypeByte 0x1B) := rfl
theorem test_decode_rxLengthByte : decode (key 0b01000011011) = .ok (.rxLengthByte 0x1B) := rfl
theorem test_decode_rxOpCodeByte : decode (key 0b01100011011) = .ok (.rxOpCodeByte 0x1B) := rfl
theorem test_decode_rxDataBytes : decode (key 0b10000011011) = .ok (.rxDataBytes 0x1B) := rfl
theorem test_decode_rxChecksumBytes : decode (key 0b10100011011) = .ok (.rxChecksumBytes 0x1B) := rfl
theorem test_decode_slotAxis0 : decode { space := .busAddress, word := 0b000, fields := .zero } = .ok .slotAxis0 := rfl
theorem test_decode_slotAxis1 : decode { space := .busAddress, word := 0b001, fields := .zero } = .ok .slotAxis1 := rfl
theorem test_decode_slotAxis2 : decode { space := .busAddress, word := 0b010, fields := .zero } = .ok .slotAxis2 := rfl
theorem test_decode_slotAxis3 : decode { space := .busAddress, word := 0b011, fields := .zero } = .ok .slotAxis3 := rfl
theorem test_decode_slotAxis4 : decode { space := .busAddress, word := 0b100, fields := .zero } = .ok .slotAxis4 := rfl
theorem test_decode_slotAxis5 : decode { space := .busAddress, word := 0b101, fields := .zero } = .ok .slotAxis5 := rfl
theorem test_decode_slotPortaLo : decode { space := .busAddress, word := 0b110, fields := .zero } = .ok .slotPortaLo := rfl
theorem test_decode_slotPortaHi : decode { space := .busAddress, word := 0b111, fields := .zero } = .ok .slotPortaHi := rfl
theorem test_decode_frameRequest :
    decode (frame 0b1010101000000001 1 [0x01, 0xAB, 0x00]) = .ok (.frameRequest 1 [0x01, 0xAB, 0x00]) := rfl
theorem test_decode_frameResponse :
    decode (frame 0b1010101000000010 1 [0x01, 0xAB, 0x03]) = .ok (.frameResponse 1 [0x01, 0xAB, 0x03]) := rfl
theorem test_decode_appPing : decode (request 0b00001 [0x2A]) = .ok (.appPing [0x2A]) := rfl
theorem test_decode_appStop : decode (request 0b00010 [0x2A]) = .ok (.appStop [0x2A]) := rfl
theorem test_decode_appDisable : decode (request 0b00011 [0x2A]) = .ok (.appDisable [0x2A]) := rfl
theorem test_decode_appEnable : decode (request 0b00100 [0x2A]) = .ok (.appEnable [0x2A]) := rfl
theorem test_decode_appClear : decode (request 0b00101 [0x2A]) = .ok (.appClear [0x2A]) := rfl
theorem test_decode_appMoveRelative : decode (request 0b00110 [0x2A]) = .ok (.appMoveRelative [0x2A]) := rfl
theorem test_decode_appMoveAbsolute : decode (request 0b00111 [0x2A]) = .ok (.appMoveAbsolute [0x2A]) := rfl
theorem test_decode_appSetPortA : decode (request 0b01000 [0x2A]) = .ok (.appSetPortA [0x2A]) := rfl
theorem test_decode_appGetPortA : decode (request 0b01001 [0x2A]) = .ok (.appGetPortA [0x2A]) := rfl
theorem test_decode_appIsMoving : decode (request 0b01010 [0x2A]) = .ok (.appIsMoving [0x2A]) := rfl
theorem test_decode_appGetCurrentPosition : decode (request 0b01011 [0x2A]) = .ok (.appGetCurrentPosition [0x2A]) := rfl
theorem test_decode_appMoveAtSpeed : decode (request 0b01100 [0x2A]) = .ok (.appMoveAtSpeed [0x2A]) := rfl
theorem test_decode_appSetRobotID : decode (request 0b01101 [0x2A]) = .ok (.appSetRobotID [0x2A]) := rfl
theorem test_decode_appGetRobotID : decode (request 0b01110 [0x2A]) = .ok (.appGetRobotID [0x2A]) := rfl
theorem test_decode_appSavePosition : decode (request 0b01111 [0x2A]) = .ok (.appSavePosition [0x2A]) := rfl
theorem test_decode_appLoadPosition : decode (request 0b10000 [0x2A]) = .ok (.appLoadPosition [0x2A]) := rfl

/-- Bare words of the table, as the host hands them (log 3). -/
theorem test_table_words :
    decodeTableWord 16 0x1000 = some .tick ∧ decodeTableWord 16 0x0201 = some (.rxLengthByte 0x01) ∧
    decodeTableWord 16 0xAA02 = some (.frameResponse 0 []) ∧ decodeTableWord 8 0x10 = some (.appLoadPosition []) ∧
    decodeTableWord 8 0x00 = some .slotAxis0 ∧ decodeTableWord 16 0x6000 = none := by
  refine ⟨rfl, rfl, rfl, rfl, rfl, rfl⟩

/-- A word placed after reset is the one the next step runs (log 1, log 4). -/
theorem test_withFetchWord :
    look State.portOut (step (State.reset.withFetchWord 16 0x223C)) = some 0x3C ∧
    look State.pos (step (State.reset.withFetchWord 16 0x0307)) = some 4 := by decide

/-! ### One step from the spec's vectors -/

/-- V-AB: SELECT. -/
theorem test_select_drives : look (fun s => (s.a, s.trace)) (exec (.select 6) State.reset) = some (6, [.sel 6]) := by decide
/-- V-AB, D15: an address above 7. -/
theorem test_select_range :
    look (fun s => (s.a, s.trace, s.fault)) (exec (.select 8) { State.reset with a := 5 }) =
      some (5, [], some (.selectRange 8)) := by decide
/-- V-AB: the write strobe records the lines as they stand. -/
theorem test_strobeWrite :
    look (fun s => (s.nIOW, s.trace)) (exec .strobeWrite { State.reset with a := 5, dout := 0xF }) =
      some (true, [.pulseW 5 0xF]) := by decide
/-- V-AB: the read strobe samples nothing. -/
theorem test_strobeRead :
    look (fun s => (s.nIOR, s.trace, s.drawCount)) (exec .strobeRead { State.reset with a := 5 }) =
      some (true, [.pulseR 5], 0) := by decide
/-- V-AB: DI3..DI0 = 1, 1, 0, 1 read as 0xD. -/
theorem test_readInputNibble :
    look (fun s => (s.trace, s.ret))
      (exec .readInputNibble { State.reset with a := 5, answersDI := [⟨true, false, true, true⟩] }) =
      some ([.sample 5 0xD], .nibble 0xD) := by decide
/-- V-AB: 0xAB drives 0xB. -/
theorem test_writeOutputNibble :
    look (fun s => (s.dout, s.trace)) (exec (.writeOutputNibble 0xAB) State.reset) = some (0xB, [.out 0xB]) := by decide
/-- V-SCH: an axis tick at address 0, service (1, 3). -/
theorem test_tick_axis :
    look (fun s => (s.trace, s.idx, s.motorState)) (exec .tick { State.reset with answersService := [(true, 3)] }) =
      some ([.axDisable 0, .axEnable 0, .sel 0, .axService 0 true 3, .pulseW 0 3], 1, 0x01) := by decide
/-- V-SCH: a port tick at address 7 wraps. -/
theorem test_tick_port_wraps :
    look (fun s => (s.trace, s.idx, s.portInHi))
      (exec .tick { State.reset with idx := 7, portOut := 0x3C, answersDI := [⟨false, false, true, true⟩] }) =
      some ([.sel 7, .sample 7 0xC, .out 0x3, .pulseW 7 0x3, .pulseR 7], 0, 0xC) := by decide
/-- R160 under REENABLE_GATED with the flag clear. -/
theorem test_axisReenable_gated :
    look (fun s => (s.trace, s.answersEnabled))
      (exec (.axisReenable 2) { State.reset with params := { Params.default with reenableGated := true }, answersEnabled := [false] }) =
      some ([], []) := by decide
/-- V-AX: axis 2 cleared in 0x05, axis 5 set in 0x20's complement, bits 7:6 kept. -/
theorem test_serviceAxis :
    look State.motorState (exec (.serviceAxis 2) { State.reset with motorState := 0x05, answersService := [(false, 0)] }) =
      some 0x01 ∧
    look State.motorState (exec (.serviceAxis 0) { State.reset with motorState := 0xC0, answersService := [(true, 0)] }) =
      some 0xC1 := by decide
/-- R142: the low slot by its sub-address, V-SCH at address 6. -/
theorem test_portSlot :
    look (fun s => (s.trace, s.portInLo, s.idx))
      (exec (.portSlot .lo) { State.reset with portOut := 0xAB, answersDI := [⟨true, false, true, false⟩] }) =
      some ([.sel 6, .sample 6 0x5, .out 0xB, .pulseW 6 0xB, .pulseR 6], 0x5, 0) := by decide
/-- V-PA3: portInHi = 0xC, portInLo = 0x5. -/
theorem test_getInput :
    look State.ret (exec .getInput { State.reset with portInHi := 0xC, portInLo := 0x5 }) = some (.byte 0xC5) := by decide
/-- V-CK7: two unequal neighbours swapped. -/
theorem test_checksum :
    checksum [0xAA, 0x01, 0x01, 0x02] = (0xAB, 0x03) ∧ checksum [0xAA, 0x01, 0x02, 0x01] = (0xA8, 0x00) := by decide
/-- V-CK5: swapped odd positions collide. -/
theorem test_checksum_collision :
    checksum [0xAA, 0x01, 0x03, 0x06, 0x11, 0x22] = (0xB8, 0x25) ∧
    checksum [0xAA, 0x01, 0x03, 0x22, 0x11, 0x06] = (0xB8, 0x25) := by decide
/-- V-ENC3. -/
theorem test_encodeRequest :
    look State.ret (exec (.encodeRequest 0x08 [0xAB] 1) State.reset) =
      some (.frame [0xAA, 0x01, 0x02, 0x08, 0xAB, 0x03, 0x09]) := by decide
/-- V-ENC9. -/
theorem test_encodeRequest_length :
    look State.fault (exec (.encodeRequest 0x01 [0x01, 0x02] 1) State.reset) = some (some (.encodeLength 1)) := by decide
/-- V-ENC12. -/
theorem test_encodeResponse :
    look State.ret (exec (.encodeResponse 0x09 0x00 [0x5A] 1) State.reset) =
      some (.frame [0xAA, 0x02, 0x03, 0x09, 0x00, 0x5A, 0xA9, 0x51]) := by decide
/-- V-ENC14. -/
theorem test_encodeResponse_limit :
    look State.fault (exec (.encodeResponse 0x10 0x00 (List.replicate 26 0) 26) State.reset) =
      some (some (.encodeLength 26)) := by decide
/-- V-VAL13: the first failure wins. -/
theorem test_validate_order :
    look State.ret (exec (.validate [0x55, 0x03, 0x01, 0x01, 0xAB, 0x00] 6) State.reset) =
      some (.verdict .sentinel) := by decide
/-- V-VAL2, V-VAL3: the range is checked before the buffer. -/
theorem test_validate_range_and_short :
    look State.ret (exec (.validate [] 33) State.reset) = some (.verdict .lenRange) ∧
    look State.fault (exec (.validate [0xAA, 0x01, 0x01, 0x01, 0xAB] 6) State.reset) =
      some (some .validateShortBuffer) := by decide
/-- V-DEC2, V-DEC4: a Response with a status and one of Length 1. -/
theorem test_decodeFrame :
    decodeBytes [0xAA, 0x02, 0x03, 0x09, 0x00, 0x5A, 0xA9, 0x51] =
      some { type := .response, op := 0x09, len := 3, status := some 0x00, payload := [0x5A] } ∧
    decodeBytes [0xAA, 0x02, 0x01, 0x01, 0xAB, 0x03] =
      some { type := .response, op := 0x01, len := 1, status := none, payload := [] } := by decide
/-- V-RX12. -/
theorem test_frameRequest_dispatch :
    look (fun s => (s.trace, s.rxState, s.pos)) (exec (.frameRequest 2 [0x08, 0xAB, 0x03, 0x09]) listening) =
      some ([.dispatch 0x08 2 [0xAB]], .sentinel, 0) := by decide
/-- V-RX14. -/
theorem test_frameRequest_badChecksum :
    look (fun s => (s.trace, s.rxState, s.rxCause)) (exec (.frameRequest 1 [0x01, 0xAB, 0x01]) listening) =
      some ([], .sentinel, some .badChecksum) := by decide
/-- V-RX16: a Response is accepted and not acted on. -/
theorem test_frameResponse :
    look (fun s => (s.trace, s.rxState, s.rxCause)) (exec (.frameResponse 1 [0x01, 0xAB, 0x03]) listening) =
      some ([], .sentinel, none) := by decide
/-- V-RX7, V-RX8: Length 28 is refused and 27 accepted. -/
theorem test_rxLengthByte :
    look (fun s => (s.rxState, s.pos)) (exec (.rxLengthByte 0x1C) (receiving .lengthByte 2 0 [(0, 0xAA), (1, 0x01)])) =
      some (.sentinel, 0) ∧
    look (fun s => (s.rxState, s.rxLen)) (exec (.rxLengthByte 0x1B) (receiving .lengthByte 2 0 [(0, 0xAA), (1, 0x01)])) =
      some (.opCodeByte, 0x1B) := by decide
/-- V-RX17, V-RX18: the second 0xAA, without and with RESYNC_REEXAMINE. -/
theorem test_rxTypeByte_resync :
    look (fun s => (s.rxState, s.pos)) (exec (.rxTypeByte 0xAA) (receiving .typeByte 1 0 [(0, 0xAA)])) = some (.sentinel, 0) ∧
    look (fun s => (s.rxState, s.pos))
      (exec (.rxTypeByte 0xAA)
        { receiving .typeByte 1 0 [(0, 0xAA)] with params := { Params.default with resyncReexamine := true } }) =
      some (.typeByte, 1) := by decide
/-- V-RX25: a handler that calls RX_BYTE. -/
theorem test_reentrant_handler :
    look (fun s => (s.trace, s.fault))
      (exec (.appPing []) { State.reset with handler := some (.call .always (.rxByte (.lit [0x00])) .done) }) =
      some ([.dispatch 0x01 1 []], some .reentrant) := by decide
/-- P2: GetPortA answered from the cache, with the status byte 0x00 the program instantiates. -/
theorem test_handler_getPortA :
    look State.tx
      (exec (.appGetPortA [])
        { State.reset with
          portInHi := 0xC, portInLo := 0x5
          handler := some (.call .always .getInput
            (.call .always (.sendResponse .op (.lit [0x00]) (.reply 0) (.lit 1)) .done)) }) =
      some [0xAA, 0x02, 0x03, 0x09, 0x00, 0xC5, 0xA9, 0xCE] := by decide
/-- V-TX1. -/
theorem test_sendResponse :
    look State.tx (exec (.sendResponse 0x09 0x00 [0x5A] 1) State.reset) =
      some [0xAA, 0x02, 0x03, 0x09, 0x00, 0x5A, 0xA9, 0x51] := by decide
/-- V-TX3. -/
theorem test_sendResponse_limit :
    look (fun s => (s.tx, s.fault)) (exec (.sendResponse 0x10 0x00 (List.replicate 26 0) 26) State.reset) =
      some ([], some (.encodeLength 26)) := by decide
/-- V-ENC7, W2: base 100 and speed 50, low byte first. -/
theorem test_jointPayload :
    jointPayload ⟨⟨100, 50⟩, ⟨0, 0⟩, ⟨0, 0⟩, ⟨0, 0⟩, ⟨0, 0⟩, ⟨0, 0x1234⟩⟩ =
      [0x64, 0x00, 0x32, 0x00] ++ List.replicate 18 0x00 ++ [0x34, 0x12] := by decide
/-- The write of what an unlisted offset reads as removes the entry. -/
theorem test_buffer_canonical :
    Memory.write (Memory.write (Memory.write [] 5 0xAA) 2 0x01) 5 0x00 = [(2, 0x01)] := by decide

/-! ### Witnesses: a state and operands that meet an obligation's hypotheses, every clause of it at its boundaries -/

theorem witness_DecodeOfEncodeIsIdentity :
    (Instr.frameRequest 27 (List.replicate 29 0x11)).wellFormed = true ∧ (Instr.frameResponse 28 []).wellFormed = true ∧
    (Instr.frameRequest 0 []).wellFormed = true ∧ (Instr.appClear (List.replicate 26 0)).wellFormed = true := by decide
theorem witness_DecodedEntryIsWellFormedAndRestored :
    decode (frame 0xAA01 1 [0x01, 0xAB, 0x00]) = .ok (.frameRequest 1 [0x01, 0xAB, 0x00]) := rfl
theorem witness_DecoderRefusesByName :
    (0x02 : Byte) ∈ ([0x02, 0x03] : List Byte) ∧ (0x01 : Byte) ≠ 0 ∧ 5 < (0x06 : Byte).toNat ∧ (0x05 : Byte) ≠ 6 ∧ (0x08 : Byte) ≠ 7 ∧
    (0x00 : Byte) ∉ ([0x01, 0x02] : List Byte) ∧ (0xFF : Byte) ∉ ([0x47, 0x48] : List Byte) := by decide
theorem witness_StepRunsTheDecodedInstruction :
    let s : State := { State.reset with agenda := [word 0x1000, word 0x0000] }
    s.fault = none ∧ decode (word 0x1000) = .ok .tick ∧ decode (word 0x0000) = .error (.illegalOpid 0x00) ∧ State.reset.agenda = [] := ⟨rfl, rfl, rfl, rfl⟩
theorem witness_FaultMarkStopsEveryOperation :
    ({ State.reset with fault := some .reentrant } : State).fault = some .reentrant := by decide
theorem witness_EveryOperationHasAStep :
    State.reset.fault = none ∧ transitionKey (.rxSentinel 0xAA) = some State.reset.rxState ∧ transitionKey .tick = none := by decide
theorem witness_TransitionRefusedInAnotherState :
    State.reset.fault = none ∧ transitionKey (.rxTypeByte 0x01) = some .typeByte ∧ State.reset.rxState ≠ .typeByte := by decide
theorem witness_OnlyTickMovesTheIndex :
    look State.idx (exec .tick { State.reset with idx := 7, answersDI := [⟨true, true, true, true⟩] }) = some 0 ∧
    look State.idx (exec (.setOutput 1) { State.reset with idx := 7 }) = some 7 := by decide
theorem witness_BusPathAndCodecPathAreApart :
    look State.fault (exec (.setOutput 1) State.reset) = some none ∧ drivesBus (.setOutput 1) = false ∧
    look State.fault (exec (.select 8) State.reset) = some (some (.selectRange 8)) ∧ drivesBus (.select 8) = true ∧
    look State.fault (exec .strobeWrite State.reset) = some none ∧ drivesBus .strobeWrite = true := by decide
theorem witness_OnlyTheReceivePathMovesTheReceiver :
    look State.rxState (exec .strobeWrite State.reset) = some .sentinel ∧ receives .strobeWrite = false := by decide
theorem witness_StreamsOnlyGrow :
    look State.trace (exec (.select 7) { State.reset with trace := [.sel 1] }) = some [.sel 1, .sel 7] := by decide
theorem witness_MotorStateTopBitsAreKept :
    look State.motorState (exec (.serviceAxis 5) { State.reset with motorState := 0xC0, answersService := [(true, 0)] }) =
      some 0xE0 := by decide
theorem witness_TickAndReceiveCommute :
    State.reset.Inv ∧ State.reset.fault = none ∧ State.reset.handler = none ∧ State.Inv { State.reset with idx := 7 } := by decide
theorem witness_BufferReadsWhatWasWritten :
    Memory.wf [(0, 0xAA), (31, 0x01)] = true ∧ Memory.wf [] = true := by decide
theorem witness_SelectDrivesOrFaults :
    State.reset.fault = none ∧ (0x07 : Byte).toNat ≤ 7 ∧ ¬(0x08 : Byte).toNat ≤ 7 := by decide
theorem witness_StrobesPulseOnce :
    State.reset.fault = none := by decide
theorem witness_ReadInputNibbleSamplesTheLines :
    State.reset.fault = none ∧ State.reset.answersDI = [] ∧
    ({ State.reset with answersDI := [⟨true, false, false, false⟩] } : State).answersDI = ⟨true, false, false, false⟩ :: [] := by decide
theorem witness_WriteOutputNibbleDrivesTheLowBits :
    State.reset.fault = none := by decide
theorem witness_AxisReenableDisablesThenEnables :
    State.reset.fault = none ∧ State.reset.params.reenableGated = false ∧ State.reset.answersEnabled = [] ∧
    (let s : State := { State.reset with params := { Params.default with reenableGated := true }, answersEnabled := [true] }
     s.fault = none ∧ s.params.reenableGated = true ∧ s.answersEnabled = true :: []) := by decide
theorem witness_ServiceAxisRecordsItsResult :
    State.reset.fault = none ∧ State.reset.answersService = [] ∧
    ({ State.reset with answersService := [(true, 3)] } : State).answersService = (true, 3) :: [] := by decide
theorem witness_PortServicesSampleThenDrive :
    State.reset.fault = none := by decide
theorem witness_PortAccessorsUseTheCache :
    State.reset.fault = none := by decide
theorem witness_OutputReachesTheLatchesInItsSlot :
    ({ State.reset with idx := 7 } : State).fault = none ∧ (6 - (7 : BusAddress)).toNat + 1 = 8 ∧ (7 - (7 : BusAddress)).toNat + 1 = 1 := by decide
theorem witness_PortByteIsNotMovedAtomically :
    ({ State.reset with idx := 6 } : State).fault = none ∧ ({ State.reset with idx := 6 } : State).idx = 6 := by decide
theorem witness_AxisSlotRunsInOrder :
    State.reset.fault = none := by decide
theorem witness_PortSlotRunsInOrder :
    State.reset.fault = none := by decide
theorem witness_TickRunsTheSlotAndAdvances :
    State.reset.fault = none ∧ State.reset.idx = BitVec.ofNat 3 (0 : Axis).val ∧
    ({ State.reset with idx := 5 } : State).idx = BitVec.ofNat 3 (5 : Axis).val ∧
    ({ State.reset with idx := 6 } : State).idx = 6 ∧ ({ State.reset with idx := 7 } : State).idx = 7 := by decide
theorem witness_SlotRowsRunTheirSlot :
    State.reset.fault = none ∧ axisSlotRows.length = 6 ∧ portSlotRows.length = 2 := by decide
theorem witness_TicksSelectAddressesRoundRobin :
    State.reset.fault = none := by decide
theorem witness_RevolutionEvents :
    State.reset.fault = none ∧ State.reset.idx = 0 := by decide
theorem witness_LinesHoldTheLastSelectedAddress :
    look State.a (exec .tick { State.reset with answersService := [(true, 0)] }) = some 0 ∧
    look State.a (exec .getInput State.reset) = some 0 ∧ drivesBus .getInput = false := by decide
theorem witness_ChecksumXorsByParity :
    State.reset.fault = none := by decide
theorem witness_ChecksumErrorDetection :
    1 < ([0xAA, 0x01] : List Byte).length ∧ ([0xAA, 0x01] : List Byte).length = ([0x80, 0x00] : List Byte).length := by decide
theorem witness_EncodeBuildsTheFrame :
    State.reset.fault = none ∧ (26 = (List.replicate 26 (0 : Byte)).length ∧ 26 ≤ 26) ∧ ¬(27 ≤ 26) := by decide
theorem witness_ValidateChecksInOrder :
    State.reset.fault = none ∧ ¬((6 < 6 ∨ 32 < 6) ∨ 6 < 6 ∨ 32 < 32) ∧ (5 < 6 ∨ 32 < 5) := by decide
theorem witness_DecodeTakesApartValidFrames :
    State.reset.fault = none ∧ validateBytes [0xAA, 0x01, 0x01, 0x01, 0xAB, 0x00] 6 = .ok .ok ∧
    validateBytes [0xAA, 0x02, 0x01, 0x01, 0xAB, 0x03] 6 = .ok .ok ∧
    validateBytes [0xAA, 0x02, 0x02, 0x01, 0x00, 0xA8, 0x03] 7 = .ok .ok ∧ validateBytes [] 0 = .ok .lenRange := ⟨rfl, rfl, rfl, rfl, rfl⟩
theorem witness_EncodedFramesValidate :
    State.reset.fault = none ∧ (List.replicate 26 (0 : Byte)).length ≤ 26 ∧ (List.replicate 25 (0 : Byte)).length ≤ 25 := by decide
theorem witness_DecodeInvertsEncode :
    State.reset.fault = none ∧ (List.replicate 26 (0 : Byte)).length ≤ 26 ∧ ([] : List Byte).length ≤ 25 := by decide
theorem witness_SentinelWaitsForTheSentinelByte :
    State.reset.fault = none ∧ State.reset.rxState = .sentinel := by decide
theorem witness_TypeByteAcceptsOneOrTwo :
    let s := receiving .typeByte 1 0 [(0, 0xAA)]
    s.fault = none ∧ s.rxState = .typeByte := by decide
theorem witness_LengthByteAcceptsOneToTwentySeven :
    let s := receiving .lengthByte 2 0 [(0, 0xAA), (1, 0x01)]
    s.fault = none ∧ s.rxState = .lengthByte ∧ 
    (1 ≤ (0x01 : Byte).toNat ∧ (0x01 : Byte).toNat ≤ 27) ∧ (1 ≤ (0x1B : Byte).toNat ∧ (0x1B : Byte).toNat ≤ 27) ∧
    ¬1 ≤ (0x00 : Byte).toNat ∧ ¬(0x1C : Byte).toNat ≤ 27 := by decide
theorem witness_OpCodeAndDataBytesAreStored :
    let s := receiving .opCodeByte 3 1 [(0, 0xAA), (1, 0x01), (2, 0x01)]
    let t := receiving .dataBytes 29 27 [(0, 0xAA), (1, 0x01), (2, 0x1B)]
    (s.fault = none ∧ s.rxState = .opCodeByte) ∧ t.Inv ∧ t.fault = none ∧ t.rxState = .dataBytes ∧ t.pos + 1 = t.rxLen.toNat + 3 := by decide
theorem witness_FramingDiscardsAreSilent :
    let again : State := { receiving .typeByte 1 0 [(0, 0xAA)] with params := { Params.default with resyncReexamine := true } }
    look State.rxCause (exec (.rxByte 0x00) State.reset) = some (some .staySentinel) ∧
    look State.rxCause (exec (.rxByte 0x03) (receiving .typeByte 1 0 [(0, 0xAA)])) = some (some .badType) ∧
    look (fun t => (t.rxCause, t.rxState)) (exec (.rxByte 0xAA) again) = some (some .badType, .typeByte) ∧
    look State.rxCause (exec (.rxByte 0x00) (receiving .lengthByte 2 0 [(0, 0xAA), (1, 0x01)])) = some (some .badLength) ∧
    look State.rxCause (exec (.rxByte 0x1C) (receiving .lengthByte 2 0 [(0, 0xAA), (1, 0x01)])) = some (some .badLength) ∧
    look State.rxCause (exec (.rxByte 0x1B) (receiving .lengthByte 2 0 [(0, 0xAA), (1, 0x01)])) = some none ∧
    look State.rxCause (exec (.rxByte 0x01) (receiving .checksumBytes 5 1
      [(0, 0xAA), (1, 0x01), (2, 0x01), (3, 0x01), (4, 0xAB)])) = some (some .badChecksum) := by decide
theorem witness_ChecksumBytesCompleteTheFrame :
    let buf : Memory := [(0, 0xAA), (1, 0x01), (2, 0x01), (3, 0x01), (4, 0xAB)]
    let s := receiving .checksumBytes 4 1 buf
    let t := receiving .checksumBytes 5 1 buf
    let w : Memory := Memory.write buf 5 0x00
    s.Inv ∧ s.fault = none ∧ s.rxState = .checksumBytes ∧ s.pos + 1 ≠ s.rxLen.toNat + 5 ∧
    t.Inv ∧ t.fault = none ∧ t.rxState = .checksumBytes ∧ t.pos + 1 = t.rxLen.toNat + 5 ∧
    checksum (w.slice 0 4) = (w.read 4, w.read 5) ∧
    checksum ((Memory.write buf 5 0x01).slice 0 4) ≠ ((Memory.write buf 5 0x01).read 4, (Memory.write buf 5 0x01).read 5) := by decide
theorem witness_CompletionCheckIsValidate :
    let s := receiving .checksumBytes 5 1 [(0, 0xAA), (1, 0x02), (2, 0x01), (3, 0x01), (4, 0xAB)]
    s.Inv ∧ s.fault = none ∧ s.rxState = .checksumBytes ∧ s.pos = s.rxLen.toNat + 4 := by decide
theorem witness_DispatchHandsRequestsToTheHandler :
    let s : State := { State.reset with handler := some .done, buf := [(1, 0x01)], rxLen := 29 }
    let t : State := { State.reset with handler := some .done, buf := [(1, 0x01)], rxLen := 30 }
    (s.fault = none ∧ s.handler = some .done ∧ s.buf.read 1 = 0x01 ∧ s.rxLen.toNat ≤ 29) ∧
    (t.fault = none ∧ t.handler = some .done ∧ t.buf.read 1 = 0x01 ∧ 29 < t.rxLen.toNat) ∧
    (State.reset.buf.read 1 ≠ 0x01 ∧ State.reset.handler = none) := by decide
theorem witness_HandlerRunFollowsItsCalls :
    let x : HandlerView := { op := 1, len := 1, payload := [], run := 0, replies := [] }
    let s : State := { State.reset with handler := some (.call .always .tick .done) }
    let long : HandlerCall := .encodeRequest .op .payload (.lit 27)
    evalCond x .always = true ∧ evalCond x (.not .always) = false ∧ (callEffect x .getInput State.reset).fault = none ∧
    (callEffect x long State.reset).fault ≠ none ∧
    callOperation x .getInput = some .getInput ∧ callOperation x long = some (.encodeRequest 1 [] 27) ∧
    callOperation x (.validate (.lit []) (.lit 6)) = some (.validate [] 6) ∧
    s.fault = none ∧ (List.replicate 26 (0 : Byte)).length ≤ 26 ∧ s.handler = some (.call .always .tick .done) := by decide
/-- 44_frame_codec.md R194, R195, D31: two rejections for different reasons (total 5; Length unlike total − 5) look the same to a
handler, and unlike an Ok. -/
theorem test_handler_sees_only_the_bool :
    let x : HandlerView := { op := 1, len := 1, payload := [], run := 0, replies := [] }
    let bytes : BytesExpr := .lit [0xAA, 0x01, 0x01, 0x01, 0xAB, 0x00]
    callReply x (.validate bytes (.lit 5)) State.reset = .accepted false ∧
    callReply x (.validate (.lit [0xAA, 0x01, 0x02, 0x01, 0xAB, 0x00]) (.lit 6)) State.reset = .accepted false ∧
    callReply x (.validate bytes (.lit 6)) State.reset = .accepted true := by decide
theorem witness_NamedRequestsReachTheHandler :
    namedRequests.length = 16 ∧ namedRequests.map (fun p => p.2.toNat) = [1, 2, 3, 4, 5, 6, 7, 8, 9, 10, 11, 12, 13, 14, 15, 16] ∧
    listening.fault = none ∧ listening.handler = some .done ∧ State.reset.handler = none ∧
    (List.replicate 26 (0 : Byte)).length ≤ 26 := by decide
theorem witness_RequestFrameIsDelivered :
    (List.replicate 26 (0 : Byte)).length ≤ 26 ∧ listening.fault = none ∧ listening.rxState = .sentinel ∧
    listening.handler = some .done ∧ listening.buf.wf = true := by decide
theorem witness_OtherFramesAreSilent :
    State.reset.fault = none ∧ State.reset.rxState = .sentinel ∧ State.reset.buf.wf = true ∧
    (1 ≤ (0x1B : Byte).toNat ∧ (0x1B : Byte).toNat ≤ 27 ∧ (List.replicate 29 (0 : Byte)).length = (0x1B : Byte).toNat + 2) ∧
    State.reset.handler = none ∧ ((0x00 : Byte).toNat < 1 ∨ 27 < (0x00 : Byte).toNat) ∧ 27 < (0x1C : Byte).toNat ∧
    ¬(State.reset.params.resyncReexamine = true ∧ (0x1C : Byte) = 0xAA) := by decide
theorem witness_ReceiverResyncsWithinThirtyOneBytes :
    let s := receiving .typeByte 1 0 [(0, 0xAA)]
    s.Inv ∧ s.fault = none ∧ s.params.resyncReexamine = false ∧ 31 ≤ (List.replicate 31 (0x11 : Byte)).length := by decide
theorem witness_FlushReturnsToSentinel :
    let s := receiving .opCodeByte 3 27 [(0, 0xAA), (1, 0x01), (2, 0x1B)]
    s.Inv ∧ s.fault = none ∧ s.handler = none ∧
    (31 ≤ (List.replicate 31 (0x11 : Byte)).length ∧ ∀ b ∈ List.replicate 31 (0x11 : Byte), b ≠ 0xAA) ∧
    (29 ≤ (List.replicate 29 (0 : Byte)).length ∧ ∀ b ∈ List.replicate 29 (0 : Byte), b = 0x00) := by decide
theorem witness_SendResponseAppendsTheFrame :
    State.reset.fault = none ∧ (List.replicate 25 (0 : Byte)).length ≤ 25 ∧ ¬(List.replicate 26 (0 : Byte)).length ≤ 25 := by decide
theorem witness_RegisterHandlerReplaces :
    listening.fault = none ∧ listening.handler = some .done := by decide
theorem witness_StepKeepsTheInvariant :
    let s : State := { receiving .checksumBytes 5 1 [(0, 0xAA), (1, 0x01), (2, 0x01), (3, 0x01), (4, 0xAB)] with agenda := [word 0x4000] }
    s.Inv ∧ look State.rxState (step s) = some .sentinel := by decide
theorem witness_ResetMeetsTheInvariant :
    ResetDraws.named.buf.wf = true ∧ ({ ResetDraws.named with buf := [(31, 0xFF)] } : ResetDraws).buf.wf = true := by decide
theorem witness_JointPositionLayout :
    (List.replicate 24 (0x5A : Byte)).length = 24 := by decide

end Sys2Proof.Tests
end

section
/-! SUPPORT. What the receive buffer reads as: after an insertion, an erasure and a write, and that in canonical form the bytes
read determine the buffer (00_scope.md R12, 10_state.md R30). -/

namespace Sys2Proof.Machine

theorem read_cons (k i : Nat) (v : Byte) (m : Memory) :
    Memory.read ((k, v) :: m) i = if k = i then v else m.read i := rfl

@[simp] theorem read_cons_same (k : Nat) (v : Byte) (m : Memory) : Memory.read ((k, v) :: m) k = v := by
  simp [read_cons]

theorem wfFrom_cons {lo k : Nat} {v : Byte} {m : Memory} :
    Memory.wfFrom lo ((k, v) :: m) = true ↔
      lo ≤ k ∧ k < bufferSize ∧ v ≠ unlistedByte ∧ Memory.wfFrom (k + 1) m = true := by
  simp [Memory.wfFrom, and_assoc]

/-- Entries from `lo` on say nothing of the offsets before `lo`. -/
theorem read_of_lt_wfFrom {lo i : Nat} (hi : i < lo) {m : Memory} (hm : Memory.wfFrom lo m = true) :
    m.read i = unlistedByte := by
  induction m generalizing lo with
  | nil => rfl
  | cons e m ih =>
    obtain ⟨hlo, -, -, htail⟩ := wfFrom_cons.mp hm
    rw [read_cons, if_neg (by omega), ih (by omega) htail]

/-- Insertion replaces or shadows the entry of its offset, whether or not the buffer is in canonical form. -/
theorem read_insert (m : Memory) (i j : Nat) (b : Byte) :
    (m.insert i b).read j = if j = i then b else m.read j := by
  induction m with
  | nil => simp only [Memory.insert, read_cons, eq_comm]
  | cons e m ih =>
    obtain ⟨k, v⟩ := e
    unfold Memory.insert
    split
    next => simp only [read_cons, eq_comm]
    next =>
      split
      next hk => subst hk; grind [read_cons]
      next hk => grind [read_cons]

/-- Canonical form is needed: erasing the first entry of an offset must not uncover a second one. -/
theorem read_erase {lo : Nat} {m : Memory} (hm : Memory.wfFrom lo m = true) (i j : Nat) :
    (m.erase i).read j = if j = i then unlistedByte else m.read j := by
  induction m generalizing lo with
  | nil => simp [Memory.erase, Memory.read]
  | cons e m ih =>
    obtain ⟨k, v⟩ := e
    obtain ⟨-, -, -, htail⟩ := wfFrom_cons.mp hm
    unfold Memory.erase
    split
    next hk =>
      subst hk
      have hgone : Memory.read m k = unlistedByte := read_of_lt_wfFrom (Nat.lt_succ_self k) htail
      grind [read_cons]
    next hk => grind [read_cons, ih htail]

/-- Read after write, for the offset written and every other. -/
theorem read_write {m : Memory} (hm : m.wf = true) (i j : Nat) (b : Byte) :
    (m.write i b).read j = if j = i then b else m.read j := by
  unfold Memory.write
  split
  next hb => rw [hb, read_erase hm]
  next => exact read_insert m i j b

/-- Of two buffers that read the same, neither lists an offset before the other's first. -/
theorem first_offset_le {lo lo' k k' : Nat} {v v' : Byte} {m n : Memory}
    (hm : Memory.wfFrom lo ((k, v) :: m) = true) (hn : Memory.wfFrom lo' ((k', v') :: n) = true)
    (hread : ∀ i, Memory.read ((k, v) :: m) i = Memory.read ((k', v') :: n) i) : k' ≤ k := by
  refine Nat.not_lt.mp fun hlt => ?_
  obtain ⟨-, -, hv, -⟩ := wfFrom_cons.mp hm
  obtain ⟨-, hsize, hv', htail⟩ := wfFrom_cons.mp hn
  have hfrom : Memory.wfFrom k' ((k', v') :: n) = true := wfFrom_cons.mpr ⟨Nat.le_refl k', hsize, hv', htail⟩
  exact hv (by rw [← read_cons_same k v m, hread, read_of_lt_wfFrom hlt hfrom])

/-- A listed byte is told from an unlisted one, so no buffer with an entry reads as the empty one. -/
theorem exists_read_ne_of_wfFrom_cons {lo : Nat} {e : Nat × Byte} {m : Memory} (hm : Memory.wfFrom lo (e :: m) = true) :
    ∃ i, Memory.read (e :: m) i ≠ Memory.read [] i := by
  obtain ⟨-, -, hv, -⟩ := wfFrom_cons.mp hm
  exact ⟨e.1, by rwa [read_cons_same]⟩

/-- Behind an equal first entry, two buffers that read the same have tails that read the same: at and before that entry's offset
neither tail lists anything. -/
theorem read_tail_eq {k : Nat} {v : Byte} {m n : Memory}
    (hm : Memory.wfFrom (k + 1) m = true) (hn : Memory.wfFrom (k + 1) n = true)
    (hread : ∀ i, Memory.read ((k, v) :: m) i = Memory.read ((k, v) :: n) i) (i : Nat) : m.read i = n.read i := by
  by_cases hi : k = i
  · rw [read_of_lt_wfFrom (by omega) hm, read_of_lt_wfFrom (by omega) hn]
  · simpa only [read_cons, if_neg hi] using hread i

/-- Extensionality of the canonical form. -/
theorem eq_of_read_eq {lo lo' : Nat} {m n : Memory} (hm : Memory.wfFrom lo m = true) (hn : Memory.wfFrom lo' n = true)
    (hread : ∀ i, m.read i = n.read i) : m = n := by
  induction m generalizing lo lo' n with
  | nil =>
    cases n with
    | nil => rfl
    | cons =>
      obtain ⟨i, hne⟩ := exists_read_ne_of_wfFrom_cons hn
      exact absurd (hread i).symm hne
  | cons e m ih =>
    cases n with
    | nil =>
      obtain ⟨i, hne⟩ := exists_read_ne_of_wfFrom_cons hm
      exact absurd (hread i) hne
    | cons e' n =>
      obtain ⟨k, v⟩ := e
      obtain ⟨k', v'⟩ := e'
      obtain rfl : k = k' :=
        Nat.le_antisymm (first_offset_le hn hm fun i => (hread i).symm) (first_offset_le hm hn hread)
      obtain rfl : v = v' := by simpa using hread k
      obtain ⟨-, -, -, hm'⟩ := wfFrom_cons.mp hm
      obtain ⟨-, -, -, hn'⟩ := wfFrom_cons.mp hn
      rw [ih hm' hn' (read_tail_eq hm' hn' hread)]

/-- Settles O15: read after write by the cases of a write (erase or insert), extensionality by induction on both lists. -/
theorem bufferReadsWhatWasWritten : Obligations.BufferReadsWhatWasWritten :=
  ⟨fun _ i j b hm => read_write hm i j b, fun _ _ => eq_of_read_eq⟩

end Sys2Proof.Machine
end

section
/-! SUPPORT. What the operations keep, as three relations between a state and the next: of the serial path (10_state.md R38), of
a handler's calls and the codec (45_receiver.md R239, R240), and of the bus path (40_address_bus.md R120). Each is transitive and
is shown once for the effect of every operation; the statements about all instructions are read off. -/

namespace Sys2Proof.Machine

/-! ### The relations

A field's default proof cites the laws of the named updates (Laws/State), so a named update shows its frame by naming none. -/

/-- An operation of the serial path touches no pin, sampled nibble, moving flag or draw, and its streams only grow. -/
structure SerialFrame (s t : State) : Prop where
  a : t.a = s.a := by simp
  nIOW : t.nIOW = s.nIOW := by simp
  nIOR : t.nIOR = s.nIOR := by simp
  dout : t.dout = s.dout := by simp
  portInLo : t.portInLo = s.portInLo := by simp
  portInHi : t.portInHi = s.portInHi := by simp
  motorState : t.motorState = s.motorState := by simp
  answersDI : t.answersDI = s.answersDI := by simp
  answersService : t.answersService = s.answersService := by simp
  answersEnabled : t.answersEnabled = s.answersEnabled := by simp
  drawCount : t.drawCount = s.drawCount := by simp
  params : t.params = s.params := by simp
  agenda : t.agenda = s.agenda := by simp
  trace : s.trace <+: t.trace := by simp
  tx : s.tx <+: t.tx := by simp

/-- The receiver's fields stay as they are (45_receiver.md R240). -/
structure ReceiverKept (s t : State) : Prop where
  rxState : t.rxState = s.rxState := by simp
  buf : t.buf = s.buf := by simp
  pos : t.pos = s.pos := by simp
  rxLen : t.rxLen = s.rxLen := by simp
  rxCause : t.rxCause = s.rxCause := by simp

/-- What a handler's calls and the codec keep: they are of the serial path and leave the receiver alone. -/
structure HandlerFrame (s t : State) : Prop extends SerialFrame s t, ReceiverKept s t

/-- An operation of the bus path touches neither the receiver nor the handler, the transmit stream or the output cache; a strobe
that was idle is idle again (10_state.md R24), the top bits of `motorState` are kept (R28), and no fault is raised. -/
structure BusFrame (s t : State) : Prop extends ReceiverKept s t where
  handler : t.handler = s.handler := by simp
  tx : t.tx = s.tx := by simp
  portOut : t.portOut = s.portOut := by simp
  params : t.params = s.params := by simp
  agenda : t.agenda = s.agenda := by simp
  fault : t.fault = s.fault := by simp
  nIOW : s.nIOW = true → t.nIOW = true := by simp
  nIOR : s.nIOR = true → t.nIOR = true := by simp
  motorState : t.motorState.extractLsb' 6 2 = s.motorState.extractLsb' 6 2 := by simp
  trace : s.trace <+: t.trace := by simp

theorem SerialFrame.refl (s : State) : SerialFrame s s := {}

theorem SerialFrame.trans {s t u : State} (h : SerialFrame s t) (k : SerialFrame t u) : SerialFrame s u where
  a := k.a.trans h.a
  nIOW := k.nIOW.trans h.nIOW
  nIOR := k.nIOR.trans h.nIOR
  dout := k.dout.trans h.dout
  portInLo := k.portInLo.trans h.portInLo
  portInHi := k.portInHi.trans h.portInHi
  motorState := k.motorState.trans h.motorState
  answersDI := k.answersDI.trans h.answersDI
  answersService := k.answersService.trans h.answersService
  answersEnabled := k.answersEnabled.trans h.answersEnabled
  drawCount := k.drawCount.trans h.drawCount
  params := k.params.trans h.params
  agenda := k.agenda.trans h.agenda
  trace := h.trace.trans k.trace
  tx := h.tx.trans k.tx

/-- Going on after an action of the serial path. -/
theorem SerialFrame.andThen {s t : State} {f : State → State} (h : SerialFrame s t) (hf : SerialFrame t (f t)) :
    SerialFrame s (t.andThen f) := by
  rcases andThen_cases t f with e | ⟨e, -⟩ <;> rw [e]
  · exact h.trans hf
  · exact h

theorem ReceiverKept.trans {s t u : State} (h : ReceiverKept s t) (k : ReceiverKept t u) : ReceiverKept s u where
  rxState := k.rxState.trans h.rxState
  buf := k.buf.trans h.buf
  pos := k.pos.trans h.pos
  rxLen := k.rxLen.trans h.rxLen
  rxCause := k.rxCause.trans h.rxCause

theorem HandlerFrame.refl (s : State) : HandlerFrame s s := {}

theorem HandlerFrame.trans {s t u : State} (h : HandlerFrame s t) (k : HandlerFrame t u) : HandlerFrame s u :=
  { h.toSerialFrame.trans k.toSerialFrame, h.toReceiverKept.trans k.toReceiverKept with }

/-- Going on after a call of a handler. -/
theorem HandlerFrame.andThen {s t : State} {f : State → State} (h : HandlerFrame s t) (hf : HandlerFrame t (f t)) :
    HandlerFrame s (t.andThen f) := by
  rcases andThen_cases t f with e | ⟨e, -⟩ <;> rw [e]
  · exact h.trans hf
  · exact h

theorem BusFrame.trans {s t u : State} (h : BusFrame s t) (k : BusFrame t u) : BusFrame s u where
  toReceiverKept := h.toReceiverKept.trans k.toReceiverKept
  handler := k.handler.trans h.handler
  tx := k.tx.trans h.tx
  portOut := k.portOut.trans h.portOut
  params := k.params.trans h.params
  agenda := k.agenda.trans h.agenda
  fault := k.fault.trans h.fault
  nIOW := k.nIOW ∘ h.nIOW
  nIOR := k.nIOR ∘ h.nIOR
  motorState := k.motorState.trans h.motorState
  trace := h.trace.trans k.trace

/-! ### The bus path -/

/-- The mask of an axis touches none of bits 7:6 (10_state.md R28: six axes, bits 5:0). -/
theorem setMoving_top (m : Byte) (i : Axis) (r : Bool) : (setMoving m i r).extractLsb' 6 2 = m.extractLsb' 6 2 := by
  apply BitVec.eq_of_getLsbD_eq
  intro k hk
  have hin : 6 + k < 8 := by omega
  have hbit : ¬6 + k < i.val ∧ 6 + k - i.val ≠ 0 := by omega
  simp [setMoving, axisMask, hk, hin, hbit]

theorem driveAddress_busFrame (x : BusAddress) (s : State) : BusFrame s (driveAddress x s) := {}

theorem pulseWrite_busFrame (s : State) : BusFrame s (pulseWrite s) := {}

theorem pulseRead_busFrame (s : State) : BusFrame s (pulseRead s) := {}

theorem driveOutput_busFrame (v : Byte) (s : State) : BusFrame s (driveOutput v s) := {}

theorem sampleInput_busFrame (s : State) : BusFrame s (sampleInput s) := by
  rw [sampleInput_eq]
  exact {}

theorem answer_busFrame (r : Result) (s : State) : BusFrame s (s.answer r) := {}

theorem enabledTaken_busFrame (s : State) : BusFrame s s.enabledTaken := {}

theorem reenableCalls_busFrame (i : Axis) (s : State) : BusFrame s (reenableCalls i s) := {}

theorem reenable_busFrame (i : Axis) (s : State) : BusFrame s (reenable i s) := by
  rcases reenable_cases i s with ⟨-, e⟩ | ⟨-, -, e⟩ | ⟨-, -, e⟩ <;> rw [e]
  · exact reenableCalls_busFrame i s
  · exact (enabledTaken_busFrame s).trans (reenableCalls_busFrame i _)
  · exact enabledTaken_busFrame s

theorem service_busFrame (i : Axis) (s : State) : BusFrame s (service i s) := by
  rw [service_eq]
  exact { motorState := setMoving_top s.motorState i _ }

theorem servicePort_busFrame (k : PortNibble) (s : State) : BusFrame s (servicePort k s) := by
  cases k with
  | lo =>
    rw [servicePort, servicePortLo_eq]
    exact {}
  | hi =>
    rw [servicePort, servicePortHi_eq]
    exact {}

theorem axisSlot_busFrame (i : Axis) (s : State) : BusFrame s (axisSlot i s) :=
  (((reenable_busFrame i s).trans (driveAddress_busFrame _ _)).trans (service_busFrame i _)).trans (pulseWrite_busFrame _)

theorem portSlot_busFrame (k : PortNibble) (s : State) : BusFrame s (portSlot k s) :=
  (((driveAddress_busFrame _ s).trans (servicePort_busFrame k _)).trans (pulseWrite_busFrame _)).trans (pulseRead_busFrame _)

theorem slotAt_busFrame (d : Device) (s : State) : BusFrame s (slotAt d s) := by
  cases d with
  | axis i => exact axisSlot_busFrame i s
  | portA k => exact portSlot_busFrame k s

theorem tick_busFrame (s : State) : BusFrame s (tick s) := by
  have hidx (u : State) (k : BusAddress) : BusFrame u { u with idx := k } := {}
  exact (slotAt_busFrame (deviceAt s.idx) s).trans (hidx _ _)

/-! ### Handler calls and the codec -/

theorem raise_handlerFrame (r : Fault) (s : State) : HandlerFrame s (s.raise r) := {}

theorem answer_handlerFrame (r : Result) (s : State) : HandlerFrame s (s.answer r) := {}

theorem send_handlerFrame (bytes : List Byte) (s : State) : HandlerFrame s (s.send bytes) := {}

theorem storeOutput_handlerFrame (b : Byte) (s : State) : HandlerFrame s (storeOutput b s) := {}

theorem registerHandler_handlerFrame (h : Handler) (s : State) : HandlerFrame s (registerHandler h s) := {}

theorem answerFrame_handlerFrame (e : Except Fault (List Byte)) (s : State) : HandlerFrame s (s.answerFrame e) := by
  cases e with
  | ok bytes => exact answer_handlerFrame _ s
  | error r => exact raise_handlerFrame r s

theorem answerVerdict_handlerFrame (e : Except Fault Verdict) (s : State) : HandlerFrame s (s.answerVerdict e) := by
  cases e with
  | ok v => exact answer_handlerFrame _ s
  | error r => exact raise_handlerFrame r s

theorem sendResponse_handlerFrame (opcode status : Byte) (payload : List Byte) (n : Nat) (s : State) :
    HandlerFrame s (sendResponse opcode status payload n s) := by
  rcases sendResponse_cases opcode status payload n s with ⟨-, -, e⟩ | ⟨-, e⟩ <;> rw [e]
  · exact send_handlerFrame _ s
  · exact raise_handlerFrame _ s

theorem callEffect_handlerFrame (x : HandlerView) (k : HandlerCall) (s : State) : HandlerFrame s (callEffect x k s) := by
  rcases callEffect_cases x k s with ⟨b, e⟩ | ⟨f, e⟩ | ⟨r, e⟩ | e <;> rw [e]
  · exact storeOutput_handlerFrame b s
  · exact send_handlerFrame f s
  · exact raise_handlerFrame r s
  · exact .refl s

theorem runHandler_handlerFrame (h : Handler) (x : HandlerView) (s : State) : HandlerFrame s (runHandler h x s) := by
  induction h generalizing x s with
  | done => exact .refl s
  | call c k rest ih =>
    unfold runHandler
    split
    next => exact (callEffect_handlerFrame x k s).andThen (ih _ _)
    next => exact ih x s
  | register c h rest _ ih =>
    unfold runHandler
    split
    next => exact (registerHandler_handlerFrame h s).trans (ih _ _)
    next => exact ih x s

theorem handRequest_handlerFrame (op len : Byte) (payload : List Byte) (s : State) :
    HandlerFrame s (handRequest op len payload s) := by
  rcases handRequest_cases op len payload s with ⟨-, e⟩ | ⟨h, -, e⟩ <;> rw [e]
  · exact .refl s
  · have hentered : HandlerFrame s (s.emit (.dispatch op len payload)).handlerEntered := {}
    exact hentered.trans (runHandler_handlerFrame h _ _)

theorem dispatch_handlerFrame (s : State) : HandlerFrame s (dispatch s) := by
  rcases dispatch_cases s with ⟨-, -, -, e⟩ | ⟨-, -, -, e⟩ | ⟨-, e⟩ <;> rw [e]
  · exact handRequest_handlerFrame _ _ _ s
  · exact raise_handlerFrame _ s
  · exact .refl s

/-! ### The receive path -/

theorem bufWrite_serialFrame (i : Nat) (b : Byte) (s : State) : SerialFrame s (s.bufWrite i b) := {}

theorem discard_serialFrame (c : RxCause) (s : State) : SerialFrame s (s.discard c) := {}

theorem rxInSentinel_serialFrame (b : Byte) (s : State) : SerialFrame s (rxInSentinel b s) := by
  unfold rxInSentinel
  split
  next => exact (bufWrite_serialFrame 0 b s).andThen {}
  next => exact {}

theorem reexamine_serialFrame (b : Byte) (s : State) : SerialFrame s (reexamine b s) := by
  unfold reexamine
  split
  next => exact rxInSentinel_serialFrame b s
  next => exact .refl s

theorem completeFrame_serialFrame (s : State) : SerialFrame s (completeFrame s) := by
  rcases completeFrame_cases s with ⟨e, -⟩ | ⟨e, -⟩ <;> rw [e]
  · exact (dispatch_handlerFrame s).toSerialFrame.andThen {}
  · exact (discard_serialFrame .badChecksum s).andThen {}

theorem rxInTypeByte_serialFrame (b : Byte) (s : State) : SerialFrame s (rxInTypeByte b s) := by
  unfold rxInTypeByte
  split
  next => exact (bufWrite_serialFrame 1 b s).andThen {}
  next => exact (discard_serialFrame .badType s).trans (reexamine_serialFrame b _)

theorem rxInLengthByte_serialFrame (b : Byte) (s : State) : SerialFrame s (rxInLengthByte b s) := by
  unfold rxInLengthByte
  split
  next => exact (bufWrite_serialFrame 2 b s).andThen {}
  next => exact (discard_serialFrame .badLength s).trans (reexamine_serialFrame b _)

theorem rxInOpCodeByte_serialFrame (b : Byte) (s : State) : SerialFrame s (rxInOpCodeByte b s) := by
  unfold rxInOpCodeByte
  exact (bufWrite_serialFrame 3 b s).andThen {}

theorem rxInDataBytes_serialFrame (b : Byte) (s : State) : SerialFrame s (rxInDataBytes b s) := by
  unfold rxInDataBytes
  exact (bufWrite_serialFrame s.pos b s).andThen {}

theorem rxInChecksumBytes_serialFrame (b : Byte) (s : State) : SerialFrame s (rxInChecksumBytes b s) := by
  refine (bufWrite_serialFrame s.pos b s).andThen ?_
  have hcount (u : State) : SerialFrame u { u with pos := u.pos + 1 } := {}
  dsimp only
  split
  next => exact (hcount _).trans (completeFrame_serialFrame _)
  next => exact hcount _

theorem rxRule_serialFrame (st : RxState) (b : Byte) (s : State) : SerialFrame s (rxRule st b s) := by
  have hclear : SerialFrame s { s with rxCause := none } := {}
  refine hclear.trans ?_
  cases st with
  | sentinel => exact rxInSentinel_serialFrame b _
  | typeByte => exact rxInTypeByte_serialFrame b _
  | lengthByte => exact rxInLengthByte_serialFrame b _
  | opCodeByte => exact rxInOpCodeByte_serialFrame b _
  | dataBytes => exact rxInDataBytes_serialFrame b _
  | checksumBytes => exact rxInChecksumBytes_serialFrame b _

theorem receiveAll_serialFrame (bytes : List Byte) (s : State) : SerialFrame s (receiveAll bytes s) := by
  induction bytes generalizing s with
  | nil => exact .refl s
  | cons b rest ih => exact (rxRule_serialFrame s.rxState b s).andThen (ih _)

end Sys2Proof.Machine
end

section
/-! SUPPORT. The frames of all 56 instructions, the case split over them made once for each of the three kinds of operation, and
what follows: the fault mark (10_state.md R35), the two paths apart (R38), the streams (R34, R40) and the top bits of `motorState`
(R28). -/

namespace Sys2Proof.Machine

/-! ### The fault mark -/

theorem rxTransition_fault {s : State} {r : Fault} (key : RxState) (b : Byte) (hr : s.fault = some r) :
    rxTransition key b s = .fault r := by
  simp [rxTransition, hr]

theorem exec_fault {s : State} {r : Fault} (hr : s.fault = some r) (i : Instr) : exec i s = .fault r := by
  unfold exec
  cases i with
  | rxSentinel b | rxTypeByte b | rxLengthByte b | rxOpCodeByte b | rxDataBytes b | rxChecksumBytes b =>
    exact rxTransition_fault _ b hr
  | _ => exact perform_fault _ hr

theorem fault_none_of_exec_next {i : Instr} {s t : State} (h : exec i s = .next t) : s.fault = none := by
  cases hs : s.fault with
  | none => rfl
  | some r => rw [exec_fault hs i] at h; cases h

/-- Settles O6: every instruction is performed, or its transition taken, behind a look at the fault mark. -/
theorem faultMarkStopsEveryOperation : Obligations.FaultMarkStopsEveryOperation :=
  fun s r hr => ⟨exec_fault hr, by simp [step, hr]⟩

/-! ### Every instruction keeps the frame of its kind -/

theorem BusFrame.of_perform {s t : State} {f : State → State} (h : perform s f = .next t) (hf : BusFrame s (f s)) :
    BusFrame s t := by
  obtain ⟨-, rfl⟩ := perform_cases h
  exact hf

theorem HandlerFrame.of_perform {s t : State} {f : State → State} (h : perform s f = .next t) (hf : HandlerFrame s (f s)) :
    HandlerFrame s t := by
  obtain ⟨-, rfl⟩ := perform_cases h
  exact hf

/-- An operation of the bus path keeps the bus frame; SELECT out of range raises its fault instead (40_address_bus.md R121). -/
theorem exec_drivesBus {i : Instr} {s t : State} (h : exec i s = .next t) (hi : drivesBus i = true) :
    BusFrame s t ∨ ∃ address, i = .select address ∧ t = s.raise (.selectRange address) := by
  unfold exec at h
  cases i with
  | select address =>
    obtain ⟨-, rfl⟩ := perform_cases h
    rcases selectAddress_cases address s with ⟨-, e⟩ | ⟨-, e⟩
    · exact .inr ⟨address, rfl, e⟩
    · rw [e]; exact .inl (driveAddress_busFrame _ s)
  | strobeWrite => exact .inl (.of_perform h (pulseWrite_busFrame s))
  | strobeRead => exact .inl (.of_perform h (pulseRead_busFrame s))
  | readInputNibble => exact .inl (.of_perform h ((sampleInput_busFrame s).trans (answer_busFrame _ _)))
  | writeOutputNibble value => exact .inl (.of_perform h (driveOutput_busFrame value s))
  | tick => exact .inl (.of_perform h (tick_busFrame s))
  | axisSlot k => exact .inl (.of_perform h (axisSlot_busFrame k s))
  | portSlot k => exact .inl (.of_perform h (portSlot_busFrame k s))
  | axisReenable k => exact .inl (.of_perform h (reenable_busFrame k s))
  | serviceAxis k => exact .inl (.of_perform h (service_busFrame k s))
  | portaServiceLo => exact .inl (.of_perform h (servicePort_busFrame .lo s))
  | portaServiceHi => exact .inl (.of_perform h (servicePort_busFrame .hi s))
  | slotAxis0 | slotAxis1 | slotAxis2 | slotAxis3 | slotAxis4 | slotAxis5 | slotPortaLo | slotPortaHi =>
    exact .inl (.of_perform h (slotAt_busFrame _ s))
  | _ => cases hi

/-- Receiving one byte is RX_BYTE: nothing follows it, fault or not. -/
theorem receiveAll_singleton (b : Byte) (s : State) : receiveAll [b] s = receive b s := by
  rcases andThen_cases (receive b s) (receiveAll []) with e | ⟨e, -⟩ <;> exact e

/-- A named transition that is taken is RX_BYTE (45_receiver.md R230; log 16). -/
theorem rxTransition_next {key : RxState} {b : Byte} {s t : State} (h : rxTransition key b s = .next t) :
    t = receive b s := by
  obtain ⟨-, rfl, rfl⟩ := rxTransition_cases h
  rfl

/-- The operations of the receive path receive bytes in order: one, or those of a frame. -/
theorem exec_receives {i : Instr} {s t : State} (h : exec i s = .next t) (hi : receives i = true) :
    ∃ bytes, t = receiveAll bytes s := by
  unfold exec at h
  cases i with
  | rxByte b => obtain ⟨-, rfl⟩ := perform_cases h; exact ⟨[b], (receiveAll_singleton b s).symm⟩
  | rxSentinel b | rxTypeByte b | rxLengthByte b | rxOpCodeByte b | rxDataBytes b | rxChecksumBytes b =>
    exact ⟨[b], (rxTransition_next h).trans (receiveAll_singleton b s).symm⟩
  | frameRequest len body | frameResponse len body => obtain ⟨-, rfl⟩ := perform_cases h; exact ⟨_, rfl⟩
  | _ => cases hi

/-- Every other operation is of the codec, or hands a request to the handler. -/
theorem exec_handlerFrame {i : Instr} {s t : State} (h : exec i s = .next t) (hbus : drivesBus i = false)
    (hrx : receives i = false) : HandlerFrame s t := by
  unfold exec at h
  cases i with
  | readMotorState | getInput | checksum _ | decodeFrame _ => exact .of_perform h (answer_handlerFrame _ s)
  | setOutput b => exact .of_perform h (storeOutput_handlerFrame b s)
  | encodeRequest _ _ _ | encodeResponse _ _ _ _ => exact .of_perform h (answerFrame_handlerFrame _ s)
  | validate buf total => exact .of_perform h (answerVerdict_handlerFrame _ s)
  | dispatch => exact .of_perform h (dispatch_handlerFrame s)
  | sendResponse opcode status payload n => exact .of_perform h (sendResponse_handlerFrame opcode status payload n s)
  | registerHandler g => exact .of_perform h (registerHandler_handlerFrame g s)
  | appPing _ | appStop _ | appDisable _ | appEnable _ | appClear _ | appMoveRelative _ | appMoveAbsolute _ | appSetPortA _
  | appGetPortA _ | appIsMoving _ | appGetCurrentPosition _ | appMoveAtSpeed _ | appSetRobotID _ | appGetRobotID _
  | appSavePosition _ | appLoadPosition _ => exact .of_perform h (handRequest_handlerFrame _ _ _ s)
  | rxByte _ | rxSentinel _ | rxTypeByte _ | rxLengthByte _ | rxOpCodeByte _ | rxDataBytes _ | rxChecksumBytes _
  | frameRequest _ _ | frameResponse _ _ => cases hrx
  | _ => cases hbus

/-- Off the bus path, receiving or not, an operation is of the serial path. -/
theorem exec_serialFrame {i : Instr} {s t : State} (h : exec i s = .next t) (hbus : drivesBus i = false) :
    SerialFrame s t := by
  cases hrx : receives i with
  | true =>
    obtain ⟨bytes, rfl⟩ := exec_receives h hrx
    exact receiveAll_serialFrame bytes s
  | false => exact (exec_handlerFrame h hbus hrx).toSerialFrame

/-! ### The statements about every instruction -/

/-- Settles O10: the serial frame off the bus path, the bus frame or SELECT's fault on it. -/
theorem busPathAndCodecPathAreApart : Obligations.BusPathAndCodecPathAreApart := by
  refine ⟨fun i s t h hbus => ?_, fun i s t h hbus => ?_⟩
  · have f := exec_serialFrame h hbus
    exact ⟨f.a, f.nIOW, f.nIOR, f.dout, f.portInLo, f.portInHi, f.motorState, f.answersDI, f.answersService,
      f.answersEnabled, f.drawCount⟩
  · have hs : s.fault = none := fault_none_of_exec_next h
    rcases exec_drivesBus h hbus with f | ⟨address, rfl, rfl⟩
    · exact ⟨f.rxState, f.buf, f.pos, f.rxLen, f.rxCause, f.handler, f.tx, f.portOut, .inl (f.fault.trans hs)⟩
    · have hraised : (s.raise (.selectRange address)).fault = some (.selectRange address) := by simp [raise_of_none _ hs]
      have f := raise_handlerFrame (.selectRange address) s
      exact ⟨f.rxState, f.buf, f.pos, f.rxLen, f.rxCause, raise_handler s _, raise_tx s _, raise_portOut s _,
        .inr ⟨address, rfl, hraised⟩⟩

/-- Settles O12: an operation of the bus path appends events and sends nothing, every other one appends to both streams. -/
theorem streamsOnlyGrow : Obligations.StreamsOnlyGrow := by
  intro i s t h
  cases hbus : drivesBus i with
  | true =>
    rcases exec_drivesBus h hbus with f | ⟨address, -, rfl⟩
    · exact ⟨f.trace, f.tx ▸ List.prefix_rfl, f.params, f.agenda⟩
    · have f := raise_handlerFrame (.selectRange address) s
      exact ⟨f.trace, f.tx, f.params, f.agenda⟩
  | false =>
    have f := exec_serialFrame h hbus
    exact ⟨f.trace, f.tx, f.params, f.agenda⟩

/-- Settles O13: only SERVICE_AXIS writes `motorState`, and an axis's mask misses bits 7:6 (`setMoving_top`). -/
theorem motorStateTopBitsAreKept : Obligations.MotorStateTopBitsAreKept := by
  intro i s t h
  cases hbus : drivesBus i with
  | true =>
    rcases exec_drivesBus h hbus with f | ⟨address, -, rfl⟩
    · exact f.motorState
    · rw [raise_motorState]
  | false => rw [(exec_serialFrame h hbus).motorState]

end Sys2Proof.Machine
end

section
/-! SUPPORT. The machine invariant (10_state.md R24, R32, R36): each rule of the receiver keeps the receiver's part of it, the
frames keep the rest. -/

namespace Sys2Proof.Machine

/-! ### The receiver's part of the invariant -/

section Table

/-! The rows of the table of 10_state.md R36. -/

variable {s : State}

theorem receiverShape_sentinel (h : s.rxState = .sentinel) : receiverShape s = true ↔ s.pos = 0 := by
  simp [receiverShape, h]

theorem receiverShape_typeByte (h : s.rxState = .typeByte) : receiverShape s = true ↔ s.pos = 1 := by
  simp [receiverShape, h]

theorem receiverShape_lengthByte (h : s.rxState = .lengthByte) : receiverShape s = true ↔ s.pos = 2 := by
  simp [receiverShape, h]

theorem receiverShape_opCodeByte (h : s.rxState = .opCodeByte) :
    receiverShape s = true ↔ s.pos = 3 ∧ 1 ≤ s.rxLen.toNat ∧ s.rxLen.toNat ≤ 27 := by
  simp [receiverShape, h]

theorem receiverShape_dataBytes (h : s.rxState = .dataBytes) :
    receiverShape s = true ↔ (4 ≤ s.pos ∧ s.pos ≤ s.rxLen.toNat + 2) ∧ 2 ≤ s.rxLen.toNat ∧ s.rxLen.toNat ≤ 27 := by
  simp [receiverShape, h]

theorem receiverShape_checksumBytes (h : s.rxState = .checksumBytes) :
    receiverShape s = true ↔
      (s.pos = s.rxLen.toNat + 3 ∨ s.pos = s.rxLen.toNat + 4) ∧ 1 ≤ s.rxLen.toNat ∧ s.rxLen.toNat ≤ 27 := by
  simp [receiverShape, h]

end Table

/-- The receiver's part of `State.Inv`. -/
def ReceiverInv (s : State) : Prop :=
  s.buf.wf = true ∧ (s.fault = none → receiverShape s = true ∧ headerStored s = true)

/-- What `headerStored` says, as what is known of the header bytes of `m` with `n` bytes stored. -/
def HeaderOf (m : Memory) (n : Nat) (len : Byte) : Prop :=
  (1 ≤ n → m.read 0 = sentinelByte) ∧ (2 ≤ n → m.read 1 = typeRequest ∨ m.read 1 = typeResponse) ∧
    (3 ≤ n → m.read 2 = len)

theorem headerStored_iff (s : State) : headerStored s = true ↔ HeaderOf s.buf s.pos s.rxLen := by
  simp only [headerStored, HeaderOf, Decidable.imp_iff_not_or, Nat.not_le, Bool.and_eq_true, Bool.or_eq_true, decide_eq_true_eq,
    beq_iff_eq, and_assoc, or_assoc]

/-- A byte stored after the header leaves it as it is. -/
theorem HeaderOf.write {m : Memory} {n i : Nat} {len : Byte} (hm : m.wf = true) (h : HeaderOf m n len) (hn : 3 ≤ n) (hi : 3 ≤ i)
    (b : Byte) (n' : Nat) : HeaderOf (m.write i b) n' len := by
  obtain ⟨h0, h1, h2⟩ := h
  have hread {j : Nat} (hj : j < 3) : (m.write i b).read j = m.read j := by
    rw [read_write hm, if_neg (by omega)]
  refine ⟨fun _ => ?_, fun _ => ?_, fun _ => ?_⟩
  · rw [hread (by omega)]; exact h0 (by omega)
  · rw [hread (by omega)]; exact h1 (by omega)
  · rw [hread (by omega)]; exact h2 (by omega)

theorem receiverInv_of_sentinel {s : State} (hbuf : s.buf.wf = true) (hst : s.rxState = .sentinel) (hpos : s.pos = 0) :
    ReceiverInv s :=
  ⟨hbuf, fun _ => ⟨(receiverShape_sentinel hst).mpr hpos, by simp [headerStored_iff, HeaderOf, hpos]⟩⟩

theorem receiverInv_of_fault {s : State} (hbuf : s.buf.wf = true) (hf : s.fault ≠ none) : ReceiverInv s :=
  ⟨hbuf, fun h => absurd h hf⟩

/-- A byte stored inside the buffer, and the receiver moved on: the rules' common form. -/
theorem bufWrite_andThen {s : State} {i : Nat} (b : Byte) (f : State → State) (hs : s.fault = none) (hi : i < bufferSize) :
    (s.bufWrite i b).andThen f = f { s with buf := s.buf.write i b } := by
  rw [bufWrite_inside b hi]
  exact andThen_of_none f hs

section Rules

variable {s : State} (b : Byte)

/-! ### The rules of the six states (45_receiver.md R231 to R236) -/

theorem rxInSentinel_inv (hs : s.fault = none) (hbuf : s.buf.wf = true) (hst : s.rxState = .sentinel) (hpos : s.pos = 0) :
    ReceiverInv (rxInSentinel b s) := by
  unfold rxInSentinel
  split
  next hb =>
    rw [bufWrite_andThen b _ hs (by decide)]
    refine ⟨write_wf b (by decide) hbuf, fun _ => ⟨(receiverShape_typeByte rfl).mpr rfl,
      (headerStored_iff _).mpr ⟨fun _ => ?_, ?_, ?_⟩⟩⟩
    · simpa [read_write hbuf] using hb
    · simp
    · simp
  next => exact receiverInv_of_sentinel hbuf hst hpos

/-- A frame that is discarded leaves the receiver in Sentinel, or at the start of the next frame (D11). -/
theorem reexamine_discard_inv (c : RxCause) (hs : s.fault = none) (hbuf : s.buf.wf = true) :
    ReceiverInv (reexamine b (s.discard c)) := by
  unfold reexamine
  split
  next => exact rxInSentinel_inv b hs hbuf rfl rfl
  next => exact receiverInv_of_sentinel hbuf rfl rfl

theorem rxInTypeByte_inv (hs : s.fault = none) (hbuf : s.buf.wf = true) (hpos : s.pos = 1)
    (hhead : HeaderOf s.buf s.pos s.rxLen) : ReceiverInv (rxInTypeByte b s) := by
  obtain ⟨h0, -, -⟩ := hhead
  unfold rxInTypeByte
  split
  next hb =>
    rw [bufWrite_andThen b _ hs (by decide)]
    refine ⟨write_wf b (by decide) hbuf, fun _ => ⟨(receiverShape_lengthByte rfl).mpr rfl,
      (headerStored_iff _).mpr ⟨fun _ => ?_, fun _ => ?_, ?_⟩⟩⟩
    · simpa [read_write hbuf] using h0 (by omega)
    · simpa [read_write hbuf] using hb
    · simp
  next => exact reexamine_discard_inv b .badType hs hbuf

theorem rxInLengthByte_inv (hs : s.fault = none) (hbuf : s.buf.wf = true) (hpos : s.pos = 2)
    (hhead : HeaderOf s.buf s.pos s.rxLen) : ReceiverInv (rxInLengthByte b s) := by
  obtain ⟨h0, h1, -⟩ := hhead
  unfold rxInLengthByte
  split
  next hb =>
    rw [bufWrite_andThen b _ hs (by decide)]
    refine ⟨write_wf b (by decide) hbuf, fun _ => ⟨(receiverShape_opCodeByte rfl).mpr ⟨rfl, hb⟩,
      (headerStored_iff _).mpr ⟨fun _ => ?_, fun _ => ?_, fun _ => ?_⟩⟩⟩
    · simpa [read_write hbuf] using h0 (by omega)
    · simpa [read_write hbuf] using h1 (by omega)
    · simp [read_write hbuf]
  next => exact reexamine_discard_inv b .badLength hs hbuf

theorem rxInOpCodeByte_inv (hs : s.fault = none) (hbuf : s.buf.wf = true) (hpos : s.pos = 3)
    (hlen : 1 ≤ s.rxLen.toNat ∧ s.rxLen.toNat ≤ 27) (hhead : HeaderOf s.buf s.pos s.rxLen) :
    ReceiverInv (rxInOpCodeByte b s) := by
  unfold rxInOpCodeByte
  rw [bufWrite_andThen b _ hs (by decide)]
  refine ⟨write_wf b (by decide) hbuf, fun _ => ⟨?_, (headerStored_iff _).mpr (hhead.write hbuf (by omega) (by omega) b 4)⟩⟩
  by_cases h1 : 1 < s.rxLen.toNat
  · exact (receiverShape_dataBytes (if_pos h1)).mpr ⟨⟨Nat.le_refl 4, by dsimp only; omega⟩, h1, hlen.2⟩
  · exact (receiverShape_checksumBytes (if_neg h1)).mpr ⟨.inl (by dsimp only; omega), hlen⟩

theorem rxInDataBytes_inv (hs : s.fault = none) (hbuf : s.buf.wf = true) (hst : s.rxState = .dataBytes)
    (hpos : 4 ≤ s.pos ∧ s.pos ≤ s.rxLen.toNat + 2) (hlen : 2 ≤ s.rxLen.toNat ∧ s.rxLen.toNat ≤ 27)
    (hhead : HeaderOf s.buf s.pos s.rxLen) : ReceiverInv (rxInDataBytes b s) := by
  have hin : s.pos < bufferSize := by unfold bufferSize; omega
  unfold rxInDataBytes
  rw [bufWrite_andThen b _ hs hin]
  refine ⟨write_wf b hin hbuf, fun _ => ⟨?_, (headerStored_iff _).mpr (hhead.write hbuf (by omega) (by omega) b _)⟩⟩
  by_cases hlast : s.pos + 1 = s.rxLen.toNat + 3
  · exact (receiverShape_checksumBytes (if_pos hlast)).mpr ⟨.inl hlast, by dsimp only; omega⟩
  · exact (receiverShape_dataBytes ((if_neg hlast).trans hst)).mpr ⟨by dsimp only; omega, hlen⟩

/-- A handler may fault in DISPATCH, but it does not touch the buffer (45_receiver.md R240); else the receiver is in Sentinel. -/
theorem completeFrame_inv (hbuf : s.buf.wf = true) : ReceiverInv (completeFrame s) := by
  have close {u : State} (hu : u.buf.wf = true) : ReceiverInv (u.andThen toSentinel) := by
    rcases andThen_cases u toSentinel with e | ⟨e, hf⟩ <;> rw [e]
    · exact receiverInv_of_sentinel hu rfl rfl
    · exact receiverInv_of_fault hu hf
  rcases completeFrame_cases s with ⟨e, -⟩ | ⟨e, -⟩ <;> rw [e]
  · exact close (by rwa [(dispatch_handlerFrame s).buf])
  · exact close hbuf

theorem rxInChecksumBytes_inv (hs : s.fault = none) (hbuf : s.buf.wf = true) (hst : s.rxState = .checksumBytes)
    (hpos : s.pos = s.rxLen.toNat + 3 ∨ s.pos = s.rxLen.toNat + 4) (hlen : 1 ≤ s.rxLen.toNat ∧ s.rxLen.toNat ≤ 27)
    (hhead : HeaderOf s.buf s.pos s.rxLen) : ReceiverInv (rxInChecksumBytes b s) := by
  have hin : s.pos < bufferSize := by unfold bufferSize; omega
  have hwf : (s.buf.write s.pos b).wf = true := write_wf b hin hbuf
  unfold rxInChecksumBytes
  rw [bufWrite_andThen b _ hs hin]
  dsimp only
  split
  next => exact completeFrame_inv hwf
  next hmore =>
    have hnext : s.pos + 1 = s.rxLen.toNat + 4 := by
      unfold totalLength at hmore
      omega
    refine ⟨hwf, fun _ => ⟨(receiverShape_checksumBytes ?_).mpr ⟨.inr hnext, hlen⟩,
      (headerStored_iff _).mpr (hhead.write hbuf (by omega) (by omega) b _)⟩⟩
    exact hst

/-! ### Receiving -/

/-- Each state's row of R36 is what its rule needs. -/
theorem receive_inv (hs : s.fault = none) (h : ReceiverInv s) : ReceiverInv (receive b s) := by
  obtain ⟨hbuf, hrx⟩ := h
  obtain ⟨hshape, hstored⟩ := hrx hs
  have hhead := (headerStored_iff s).mp hstored
  unfold receive
  cases hst : s.rxState with
  | sentinel => exact rxInSentinel_inv b hs hbuf hst ((receiverShape_sentinel hst).mp hshape)
  | typeByte => exact rxInTypeByte_inv b hs hbuf ((receiverShape_typeByte hst).mp hshape) hhead
  | lengthByte => exact rxInLengthByte_inv b hs hbuf ((receiverShape_lengthByte hst).mp hshape) hhead
  | opCodeByte =>
    obtain ⟨hpos, hlen⟩ := (receiverShape_opCodeByte hst).mp hshape
    exact rxInOpCodeByte_inv b hs hbuf hpos hlen hhead
  | dataBytes =>
    obtain ⟨hpos, hlen⟩ := (receiverShape_dataBytes hst).mp hshape
    exact rxInDataBytes_inv b hs hbuf hst hpos hlen hhead
  | checksumBytes =>
    obtain ⟨hpos, hlen⟩ := (receiverShape_checksumBytes hst).mp hshape
    exact rxInChecksumBytes_inv b hs hbuf hst hpos hlen hhead

end Rules

theorem receiveAll_inv (bytes : List Byte) {s : State} (hs : s.fault = none) (h : ReceiverInv s) :
    ReceiverInv (receiveAll bytes s) := by
  induction bytes generalizing s with
  | nil => exact h
  | cons b rest ih =>
    have hb := receive_inv b hs h
    unfold receiveAll
    cases hf : (receive b s).fault with
    | none => rw [andThen_of_none _ hf]; exact ih hf hb
    | some r => rwa [andThen_of_some _ hf]

/-! ### The invariant of the machine -/

theorem inv_iff (s : State) : s.Inv ↔ s.nIOW = true ∧ s.nIOR = true ∧ ReceiverInv s := Iff.rfl

theorem ReceiverKept.inv {s t : State} (k : ReceiverKept s t) (hs : s.fault = none) (h : ReceiverInv s) : ReceiverInv t := by
  obtain ⟨hbuf, hrx⟩ := h
  have hshape : receiverShape t = receiverShape s := by simp [receiverShape, k.rxState, k.pos, k.rxLen]
  have hstored : headerStored t = headerStored s := by simp [headerStored, k.buf, k.pos, k.rxLen]
  exact ⟨by rw [k.buf]; exact hbuf, fun _ => by rw [hshape, hstored]; exact hrx hs⟩

theorem exec_inv {i : Instr} {s t : State} (h : exec i s = .next t) (hinv : s.Inv) : t.Inv := by
  have hs : s.fault = none := fault_none_of_exec_next h
  obtain ⟨hw, hr, hrx⟩ := (inv_iff s).mp hinv
  rw [inv_iff]
  cases hbus : drivesBus i with
  | true =>
    rcases exec_drivesBus h hbus with f | ⟨address, -, rfl⟩
    · exact ⟨f.nIOW hw, f.nIOR hr, f.toReceiverKept.inv hs hrx⟩
    · have f := raise_handlerFrame (.selectRange address) s
      exact ⟨f.nIOW.trans hw, f.nIOR.trans hr, f.toReceiverKept.inv hs hrx⟩
  | false =>
    have f := exec_serialFrame h hbus
    refine ⟨f.nIOW.trans hw, f.nIOR.trans hr, ?_⟩
    cases hrecv : receives i with
    | true =>
      obtain ⟨bytes, rfl⟩ := exec_receives h hrecv
      exact receiveAll_inv bytes hs hrx
    | false => exact (exec_handlerFrame h hbus hrecv).toReceiverKept.inv hs hrx

/-- What a step with a next state does: nothing with an empty agenda, else the decoded instruction. -/
theorem step_cases {s t : State} (h : step s = .next t) : t = s ∨ ∃ i, exec i s.advance = .next t := by
  unfold step at h
  split at h
  next => cases h
  next =>
    split at h
    next => cases h; exact .inl rfl
    next =>
      split at h
      next => cases h
      next i _ => exact .inr ⟨i, h⟩

/-- Settles O57: taking the entry off the agenda touches no field of the invariant, and every instruction keeps it. -/
theorem stepKeepsTheInvariant : Obligations.StepKeepsTheInvariant := by
  intro s t hinv h
  rcases step_cases h with rfl | ⟨i, hi⟩
  · exact hinv
  · exact exec_inv hi hinv

/-- Settles O58: after reset the receiver is in Sentinel with nothing stored. -/
theorem resetMeetsTheInvariant : Obligations.ResetMeetsTheInvariant := by
  have hreset (p : Params) (d : ResetDraws) (hd : d.buf.wf = true) : (State.resetWith p d).Inv :=
    (inv_iff _).mpr ⟨rfl, rfl, receiverInv_of_sentinel hd rfl rfl⟩
  exact ⟨hreset _ _ reset_buf_wf, hreset⟩

/-- Settles O59: each field by the definition of the reset state. -/
theorem resetValues : Obligations.ResetValues := fun _ _ =>
  ⟨rfl, rfl, rfl, rfl, rfl, rfl, rfl, rfl, rfl, rfl, rfl, rfl, rfl, rfl, rfl, rfl, rfl⟩

end Sys2Proof.Machine
end

section
/-! SUPPORT. Decoder and encoder against each other (30_encoding.md R81, R84, R92, R97): decoding inverts encoding on
well-formed instructions, an accepted word is the one the encoder writes, and what R95 and R97 forbid is refused by name. -/

namespace Sys2Proof

/-! ### Decoding what the encoder writes -/

theorem decode_opWord (w : OpWord) (f : TermFields) :
    decode { space := .opWord, word := w, fields := f } = decodeOpWord w f := rfl

theorem decodeFrameBody_of_frameShape {len : Byte} {body : List Byte} (h : frameShape len body = true)
    (mk : Byte → List Byte → Instr) :
    decodeFrameBody { TermFields.zero with bytes := body, n := len.toNat } mk = .ok (mk len body) := by
  simp [decodeFrameBody, h, len.isLt]

theorem decodeRequestPayload_of_requestPayload {payload : List Byte} (h : requestPayload payload = true)
    (mk : List Byte → Instr) :
    decodeRequestPayload { TermFields.zero with bytes := payload } mk = .ok (mk payload) := if_pos h

/-- Settles O1: one case per encoding space, the operation words by the rule of R97 for their imm. -/
theorem decodeOfEncodeIsIdentity : Obligations.DecodeOfEncodeIsIdentity := by
  intro i hi
  cases i with
  | select | strobeWrite | strobeRead | readInputNibble | writeOutputNibble | tick | readMotorState | portaServiceLo
  | portaServiceHi | setOutput | getInput | rxByte | dispatch =>
    rw [encode, encodeOp, decode_opWord, decodeOpWord, highByte_joinBytes, lowByte_joinBytes]; rfl
  | checksum | encodeRequest | encodeResponse | validate | decodeFrame | sendResponse | registerHandler =>
    rw [encode, encodeOpWith, decode_opWord, decodeOpWord, highByte_joinBytes, lowByte_joinBytes]; rfl
  | axisSlot k | axisReenable k | serviceAxis k =>
    rw [encode, encodeOp, decode_opWord, decodeOpWord, highByte_joinBytes, lowByte_joinBytes]
    exact decodeAxisImm_axisImm _ _ k
  | portSlot k =>
    rw [encode, encodeOp, decode_opWord, decodeOpWord, highByte_joinBytes, lowByte_joinBytes]
    exact decodePortImm_portImm _ _ k
  | rxSentinel | rxTypeByte | rxLengthByte | rxOpCodeByte | rxDataBytes | rxChecksumBytes =>
    simp [encode, encodeRxKey, RxState.code, decode, decodeRxKey]
  | slotAxis0 | slotAxis1 | slotAxis2 | slotAxis3 | slotAxis4 | slotAxis5 | slotPortaLo | slotPortaHi => rfl
  | frameRequest len body | frameResponse len body => exact decodeFrameBody_of_frameShape hi _
  | appPing p | appStop p | appDisable p | appEnable p | appClear p | appMoveRelative p | appMoveAbsolute p | appSetPortA p
  | appGetPortA p | appIsMoving p | appGetCurrentPosition p | appMoveAtSpeed p | appSetRobotID p | appGetRobotID p
  | appSavePosition p | appLoadPosition p => exact decodeRequestPayload_of_requestPayload hi _

/-! ### Encoding what the decoder accepts -/

/-- What O2 says of the decoder's answer to a word of a space: an instruction in it is well formed, and its encoding has this
space and this word. -/
def Restores (sp : Space) (w : OpWord) (r : Except DecodeError Instr) : Prop :=
  ∀ i, r = .ok i → i.wellFormed = true ∧ (encode i).space = sp ∧ (encode i).word = w

theorem restores_error (sp : Space) (w : OpWord) (e : DecodeError) : Restores sp w (.error e) := nofun

theorem restores_ok {sp : Space} {w : OpWord} {i : Instr} (hwf : i.wellFormed = true) (hsp : (encode i).space = sp)
    (hw : (encode i).word = w) : Restores sp w (.ok i) := by
  rintro _ ⟨⟩
  exact ⟨hwf, hsp, hw⟩

theorem restores_decodeFixedImm {sp : Space} {w : OpWord} {opid imm want : Byte} {i : Instr}
    (h : imm = want → Restores sp w (.ok i)) : Restores sp w (decodeFixedImm opid imm want i) := by
  unfold decodeFixedImm
  split
  next himm => exact h himm
  next => exact restores_error _ _ _

theorem restores_decodeNoImm {sp : Space} {w : OpWord} {opid imm : Byte} {i : Instr}
    (h : imm = 0 → Restores sp w (.ok i)) : Restores sp w (decodeNoImm opid imm i) := restores_decodeFixedImm h

theorem axisImm_mk {imm : Byte} (h : imm.toNat < 6) : axisImm ⟨imm.toNat, h⟩ = imm := by
  simp [axisImm]

theorem restores_decodeAxisImm {sp : Space} {w : OpWord} {opid imm : Byte} {mk : Axis → Instr}
    (h : ∀ k, imm = axisImm k → Restores sp w (.ok (mk k))) : Restores sp w (decodeAxisImm opid imm mk) := by
  unfold decodeAxisImm
  split
  next himm => exact h _ (axisImm_mk himm).symm
  next => exact restores_error _ _ _

theorem restores_decodePortImm {sp : Space} {w : OpWord} {opid imm : Byte} {mk : PortNibble → Instr}
    (h : ∀ k, imm = portImm k → Restores sp w (.ok (mk k))) : Restores sp w (decodePortImm opid imm mk) := by
  unfold decodePortImm
  split
  next himm => exact h .lo himm
  next =>
    split
    next himm => exact h .hi himm
    next => exact restores_error _ _ _

theorem restores_decodeOpWord (opid imm : Byte) (f : TermFields) :
    Restores .opWord (joinBytes opid imm) (decodeOpWord (joinBytes opid imm) f) := by
  rw [decodeOpWord, highByte_joinBytes, lowByte_joinBytes]
  split
  -- By R97's rule for the imm: an unlisted opid, an axis index, a sub-address, a constant, any value, zero.
  case h_25 => exact restores_error _ _ _
  case h_7 | h_9 | h_10 => exact restores_decodeAxisImm fun _ e => e ▸ restores_ok rfl rfl rfl
  case h_8 => exact restores_decodePortImm fun _ e => e ▸ restores_ok rfl rfl rfl
  case h_12 | h_13 => exact restores_decodeFixedImm fun e => e ▸ restores_ok rfl rfl rfl
  case h_1 | h_5 | h_14 | h_17 | h_18 | h_21 | h_23 => exact restores_ok rfl rfl rfl
  all_goals exact restores_decodeNoImm fun e => e ▸ restores_ok rfl rfl rfl

theorem restores_decodeRxKey (code b : Byte) : Restores .rxKey (joinBytes code b) (decodeRxKey (joinBytes code b)) := by
  rw [decodeRxKey, highByte_joinBytes, lowByte_joinBytes]
  split
  case h_7 => exact restores_error _ _ _
  all_goals exact restores_ok rfl rfl rfl

theorem restores_decodeBusAddress (w : OpWord) : Restores .busAddress w (decodeBusAddress w) := by
  unfold decodeBusAddress
  split
  case h_9 => exact restores_error _ _ _
  all_goals exact restores_ok rfl rfl rfl

theorem restores_decodeFrameBody {w : OpWord} {f : TermFields} {mk : Byte → List Byte → Instr}
    (h : ∀ len body, frameShape len body = true → Restores .frameHeader w (.ok (mk len body))) :
    Restores .frameHeader w (decodeFrameBody f mk) := by
  unfold decodeFrameBody
  split
  next hshape => exact h _ _ hshape.2
  next => exact restores_error _ _ _

theorem restores_decodeFrameHeader (w : OpWord) (f : TermFields) : Restores .frameHeader w (decodeFrameHeader w f) := by
  unfold decodeFrameHeader
  split
  case h_3 => exact restores_error _ _ _
  all_goals exact restores_decodeFrameBody fun _ _ hshape => restores_ok hshape rfl rfl

theorem restores_decodeRequestPayload {w : OpWord} {f : TermFields} {mk : List Byte → Instr}
    (h : ∀ payload, requestPayload payload = true → Restores .requestOpcode w (.ok (mk payload))) :
    Restores .requestOpcode w (decodeRequestPayload f mk) := by
  unfold decodeRequestPayload
  split
  next hlimit => exact h _ hlimit
  next => exact restores_error _ _ _

theorem restores_decodeRequestOpcode (w : OpWord) (f : TermFields) : Restores .requestOpcode w (decodeRequestOpcode w f) := by
  unfold decodeRequestOpcode
  split
  case h_17 => exact restores_error _ _ _
  all_goals exact restores_decodeRequestPayload fun _ hlimit => restores_ok hlimit rfl rfl

/-- Settles O2: the five spaces one by one. -/
theorem decodedEntryIsWellFormedAndRestored : Obligations.DecodedEntryIsWellFormedAndRestored := by
  rintro ⟨sp, w, f⟩
  cases sp with
  | opWord => exact joinBytes_high_low w ▸ restores_decodeOpWord (highByte w) (lowByte w) f
  | rxKey => exact joinBytes_high_low w ▸ restores_decodeRxKey (highByte w) (lowByte w)
  | busAddress => exact restores_decodeBusAddress w
  | frameHeader => exact restores_decodeFrameHeader w f
  | requestOpcode => exact restores_decodeRequestOpcode w f

/-! ### Refusals -/

theorem decodeFixedImm_of_ne {imm want : Byte} (h : imm ≠ want) (opid : Byte) (i : Instr) :
    decodeFixedImm opid imm want i = .error (.illegalImm opid imm) := if_neg h

theorem decodeNoImm_of_ne {imm : Byte} (h : imm ≠ 0) (opid : Byte) (i : Instr) :
    decodeNoImm opid imm i = .error (.illegalImm opid imm) := if_neg h

theorem decodeAxisImm_of_five_lt {imm : Byte} (h : 5 < imm.toNat) (opid : Byte) (mk : Axis → Instr) :
    decodeAxisImm opid imm mk = .error (.illegalImm opid imm) := dif_neg (by omega)

theorem decodePortImm_of_ne {imm : Byte} (h6 : imm ≠ 6) (h7 : imm ≠ 7) (opid : Byte) (mk : PortNibble → Instr) :
    decodePortImm opid imm mk = .error (.illegalImm opid imm) := (if_neg h6).trans (if_neg h7)

/-- Settles O4: each row of R97 by its rule for the imm; an opid outside the list meets no row. -/
theorem decoderRefusesByName : Obligations.DecoderRefusesByName := by
  refine ⟨?zero, ?axis, ?port, ?lo, ?hi, ?unlisted⟩
  case zero =>
    intro opid imm f hop himm
    rw [decode_opWord, decodeOpWord, highByte_joinBytes, lowByte_joinBytes]
    simp only [List.mem_cons, List.not_mem_nil, or_false] at hop
    rcases hop with rfl | rfl | rfl | rfl | rfl | rfl | rfl | rfl | rfl | rfl | rfl <;> exact decodeNoImm_of_ne himm _ _
  case axis =>
    intro opid imm f hop himm
    rw [decode_opWord, decodeOpWord, highByte_joinBytes, lowByte_joinBytes]
    simp only [List.mem_cons, List.not_mem_nil, or_false] at hop
    rcases hop with rfl | rfl | rfl <;> exact decodeAxisImm_of_five_lt himm _ _
  case port =>
    intro imm f h6 h7
    rw [decode_opWord, decodeOpWord, highByte_joinBytes, lowByte_joinBytes]
    exact decodePortImm_of_ne h6 h7 _ _
  case lo =>
    intro imm f h6
    rw [decode_opWord, decodeOpWord, highByte_joinBytes, lowByte_joinBytes]
    exact decodeFixedImm_of_ne h6 _ _
  case hi =>
    intro imm f h7
    rw [decode_opWord, decodeOpWord, highByte_joinBytes, lowByte_joinBytes]
    exact decodeFixedImm_of_ne h7 _ _
  case unlisted =>
    intro opid imm f hop
    rw [decode_opWord, decodeOpWord, highByte_joinBytes, lowByte_joinBytes]
    split
    case h_25 => rfl
    all_goals exact absurd (by decide) hop

/-- Settles O3: the decoder computes each of the fourteen. -/
theorem wordsDecodeAsTabled : Obligations.WordsDecodeAsTabled :=
  ⟨rfl, rfl, rfl, rfl, rfl, rfl, rfl, rfl, rfl, rfl, rfl, rfl, rfl, rfl⟩

end Sys2Proof
end

section
/-! SUPPORT. The JointPosition payload (30_encoding.md R93, 20_memory.md R64) as a list of halves written one after the other:
what each reads back as, and that every even number of bytes is such a list. -/

namespace Sys2Proof.Machine

/-- The fields of a position in R93's order. -/
def JointPosition.halves (p : JointPosition) : List Half :=
  [p.base.position, p.base.speed, p.shoulder.position, p.shoulder.speed, p.elbow.position, p.elbow.speed,
   p.leftDiff.position, p.leftDiff.speed, p.rightDiff.position, p.rightDiff.speed, p.gripper.position, p.gripper.speed]

theorem jointPayload_eq_flatMap (p : JointPosition) : jointPayload p = p.halves.flatMap halfBytes := rfl

theorem length_jointPayload (p : JointPosition) : (jointPayload p).length = 24 := rfl

/-! ### From the fields to the bytes and back -/

theorem halfAt_cons_cons_succ (lo hi : Byte) (rest : List Byte) (k : Nat) :
    halfAt (lo :: hi :: rest) (k + 1) = halfAt rest k := rfl

theorem halfAt_flatMap_halfBytes (hs : List Half) (k : Nat) : halfAt (hs.flatMap halfBytes) k = hs.getD k 0 := by
  induction hs generalizing k with
  | nil => simp [halfAt, byteAt, joinBytes]
  | cons h hs ih =>
    cases k with
    | zero => exact joinBytes_high_low h
    | succ k => exact ih k

theorem halfAt_jointPayload (p : JointPosition) (k : Nat) : halfAt (jointPayload p) k = p.halves.getD k 0 := by
  rw [jointPayload_eq_flatMap, halfAt_flatMap_halfBytes]

theorem jointOfPayload_jointPayload (p : JointPosition) : jointOfPayload (jointPayload p) = some p := by
  rw [jointOfPayload, if_pos (length_jointPayload p)]
  simp only [jointAt, halfAt_jointPayload]
  rfl

/-! ### From the bytes to the fields and back -/

theorem halfBytes_joinBytes (hi lo : Byte) : halfBytes (joinBytes hi lo) = [lo, hi] := by
  simp [halfBytes]

theorem flatMap_halfBytes_halfAt (n : Nat) (b : List Byte) (hb : b.length = 2 * n) :
    ((List.range n).map (halfAt b)).flatMap halfBytes = b := by
  induction n generalizing b with
  | zero => exact (List.eq_nil_of_length_eq_zero hb).symm
  | succ n ih =>
    match b, hb with
    | lo :: hi :: rest, hb =>
      have hfirst : halfBytes (halfAt (lo :: hi :: rest) 0) = [lo, hi] := halfBytes_joinBytes hi lo
      have hrest := ih rest (by simp at hb; omega)
      simpa [List.range_succ_eq_map, List.flatMap_map, hfirst, halfAt_cons_cons_succ, Function.comp_def] using hrest

theorem exists_jointOfPayload {b : List Byte} (hb : b.length = 24) : ∃ p, jointOfPayload b = some p ∧ jointPayload p = b :=
  ⟨_, if_pos hb, flatMap_halfBytes_halfAt 12 b hb⟩

/-- Settles O60: both directions by induction over the list of halves. -/
theorem jointPositionLayout : Obligations.JointPositionLayout := by
  refine ⟨fun p => ?_, fun _ => exists_jointOfPayload⟩
  have field (k : Nat) := halfAt_jointPayload p k
  exact ⟨length_jointPayload p, jointOfPayload_jointPayload p, field 0, field 1, field 2, field 3, field 4, field 5, field 6,
    field 7, field 8, field 9, field 10, field 11, rfl, rfl⟩

end Sys2Proof.Machine
end

section
/-! SUPPORT. The requests by opcode (30_encoding.md R92) as hand-overs to the handler (45_receiver.md R238). -/

namespace Sys2Proof.Machine

/-- The Length of R86 with the two one-byte terms added in either order. -/
theorem requestLength_eq (n : Nat) : requestLength n = BitVec.ofNat 8 (n + 1) := (BitVec.ofNat_add n 1).symm

theorem exec_namedRequest {p : (List Byte → Instr) × Byte} (hp : p ∈ namedRequests) (payload : List Byte) (s : State) :
    exec (p.1 payload) s = requestByOpcode p.2 payload s := by
  simp only [namedRequests, List.mem_cons, List.not_mem_nil, or_false] at hp
  rcases hp with rfl | rfl | rfl | rfl | rfl | rfl | rfl | rfl | rfl | rfl | rfl | rfl | rfl | rfl | rfl | rfl <;> rfl

theorem handRequest_of_none {s : State} (hnone : s.handler = none) (op len : Byte) (payload : List Byte) :
    handRequest op len payload s = s := by
  rcases handRequest_cases op len payload s with ⟨-, e⟩ | ⟨h, hsome, -⟩
  · exact e
  · cases hnone.symm.trans hsome

theorem handRequest_of_some {s : State} {h : Handler} (hsome : s.handler = some h) (op len : Byte) (payload : List Byte) :
    handRequest op len payload s =
      runHandler h { op := op, len := len, payload := payload, run := s.handlerRuns, replies := [] }
        { s with trace := s.trace ++ [.dispatch op len payload], handlerRuns := s.handlerRuns + 1 } := by
  rcases handRequest_cases op len payload s with ⟨hnone, -⟩ | ⟨h', hsome', e⟩
  · cases hnone.symm.trans hsome
  · obtain rfl : h' = h := Option.some.inj (hsome'.symm.trans hsome)
    exact e

/-- Settles O50: each of the sixteen rows is the hand-over of its opcode, with or without a handler to take it. -/
theorem namedRequestsReachTheHandler : Obligations.NamedRequestsReachTheHandler := by
  intro p hp payload s hs _
  have hexec : exec (p.1 payload) s = .next (handRequest p.2 (BitVec.ofNat 8 (payload.length + 1)) payload s) := by
    rw [exec_namedRequest hp, requestByOpcode, perform_next _ hs, requestLength_eq]
  refine ⟨fun h hsome => ?_, fun hnone => ?_⟩
  · rw [hexec, handRequest_of_some hsome]
  · rw [hexec, handRequest_of_none hnone]

end Sys2Proof.Machine
end

section
/-! SUPPORT. The AddressBus operations as whole next states (40_address_bus.md R120 to R126): pin state and one event. -/

namespace Sys2Proof.Machine

theorem driveAddress_eq (a : BusAddress) (s : State) :
    driveAddress a s = { s with a := a, trace := s.trace ++ [.sel a] } := rfl

/-- The low phase is over when the event is recorded: only the line's idle level is left of the strobe. -/
theorem pulseWrite_eq (s : State) :
    pulseWrite s = { s with nIOW := true, trace := s.trace ++ [.pulseW s.a s.dout] } := rfl

theorem pulseRead_eq (s : State) :
    pulseRead s = { s with nIOR := true, trace := s.trace ++ [.pulseR s.a] } := rfl

theorem driveOutput_eq (value : Byte) (s : State) :
    driveOutput value s =
      { s with dout := value.extractLsb' 0 4, trace := s.trace ++ [.out (value.extractLsb' 0 4)] } := rfl

/-- SELECT with both of R121's outcomes written out: the drive, and the fault that drives nothing (D15). -/
theorem selectAddress_eq {s : State} (address : Byte) (hs : s.fault = none) :
    selectAddress address s =
      if address.toNat ≤ 7 then
        { s with a := address.extractLsb' 0 3, trace := s.trace ++ [.sel (address.extractLsb' 0 3)] }
      else { s with fault := some (.selectRange address) } := by
  rcases selectAddress_cases address s with ⟨habove, hraise⟩ | ⟨hupTo, hdrive⟩
  · rw [hraise, raise_of_none _ hs, if_neg (by omega)]
  · rw [hdrive, driveAddress_eq, if_pos hupTo, BitVec.setWidth_eq_extractLsb' (by omega)]

/-- Settles O16: SELECT is performed, and its effect is the fault or the drive. -/
theorem selectDrivesOrFaults : Obligations.SelectDrivesOrFaults := by
  intro address s hs
  have hexec : exec (.select address) s = .next (selectAddress address s) := perform_next _ hs
  rw [hexec, selectAddress_eq address hs]

/-- Settles O17: each strobe is performed, and its two phases add up to one recorded pulse. -/
theorem strobesPulseOnce : Obligations.StrobesPulseOnce := by
  refine fun s hs => ⟨?write, ?read⟩
  case write =>
    have hexec : exec .strobeWrite s = .next (pulseWrite s) := perform_next _ hs
    rw [hexec, pulseWrite_eq]
  case read =>
    have hexec : exec .strobeRead s = .next (pulseRead s) := perform_next _ hs
    rw [hexec, pulseRead_eq]

/-- Settles O19: WRITE_OUTPUT_NIBBLE is performed, and its effect cuts the value to the low nibble. -/
theorem writeOutputNibbleDrivesTheLowBits : Obligations.WriteOutputNibbleDrivesTheLowBits := by
  intro value s hs
  have hexec : exec (.writeOutputNibble value) s = .next (driveOutput value s) := perform_next _ hs
  rw [hexec, driveOutput_eq]

end Sys2Proof.Machine
end

section
/-! SUPPORT. The slot counter (10_state.md R22, 41_bus_scheduler.md R143): an operation other than TICK leaves it alone. -/

namespace Sys2Proof.Machine

/-! ### The bus path -/

@[simp] theorem selectAddress_idx (address : Byte) (s : State) : (selectAddress address s).idx = s.idx := by
  rcases selectAddress_cases address s with ⟨-, e⟩ | ⟨-, e⟩ <;> simp [e]

@[simp] theorem sampleInput_idx (s : State) : (sampleInput s).idx = s.idx := by simp [sampleInput_eq]

@[simp] theorem reenable_idx (i : Axis) (s : State) : (reenable i s).idx = s.idx := by
  rcases reenable_cases i s with ⟨-, e⟩ | ⟨-, -, e⟩ | ⟨-, -, e⟩ <;> simp [e]

@[simp] theorem service_idx (i : Axis) (s : State) : (service i s).idx = s.idx := by simp [service_eq]

@[simp] theorem servicePort_idx (k : PortNibble) (s : State) : (servicePort k s).idx = s.idx := by
  cases k with
  | lo => simp [servicePort, servicePortLo_eq]
  | hi => simp [servicePort, servicePortHi_eq]

@[simp] theorem axisSlot_idx (i : Axis) (s : State) : (axisSlot i s).idx = s.idx := by simp [axisSlot]

@[simp] theorem portSlot_idx (k : PortNibble) (s : State) : (portSlot k s).idx = s.idx := by simp [portSlot]

@[simp] theorem slotAt_idx (d : Device) (s : State) : (slotAt d s).idx = s.idx := by
  cases d with
  | axis i => exact axisSlot_idx i s
  | portA k => exact portSlot_idx k s

/-! ### Handler calls and the codec -/

theorem andThen_idx {s : State} {f : State → State} (hf : (f s).idx = s.idx) : (s.andThen f).idx = s.idx := by
  rcases andThen_cases s f with e | ⟨e, -⟩ <;> rw [e]
  exact hf

@[simp] theorem answerFrame_idx (e : Except Fault (List Byte)) (s : State) : (s.answerFrame e).idx = s.idx := by
  cases e with
  | ok bytes => exact answer_idx s _
  | error r => exact raise_idx s r

@[simp] theorem answerVerdict_idx (e : Except Fault Verdict) (s : State) : (s.answerVerdict e).idx = s.idx := by
  cases e with
  | ok v => exact answer_idx s _
  | error r => exact raise_idx s r

@[simp] theorem sendResponse_idx (opcode status : Byte) (payload : List Byte) (n : Nat) (s : State) :
    (sendResponse opcode status payload n s).idx = s.idx := by
  rcases sendResponse_cases opcode status payload n s with ⟨-, -, e⟩ | ⟨-, e⟩ <;> simp [e]

@[simp] theorem callEffect_idx (x : HandlerView) (k : HandlerCall) (s : State) : (callEffect x k s).idx = s.idx := by
  rcases callEffect_cases x k s with ⟨b, e⟩ | ⟨f, e⟩ | ⟨r, e⟩ | e <;> simp [e]

@[simp] theorem runHandler_idx (h : Handler) (x : HandlerView) (s : State) : (runHandler h x s).idx = s.idx := by
  induction h generalizing x s with
  | done => rfl
  | call c k rest ih =>
    unfold runHandler
    split
    next => rw [andThen_idx (ih _ _), callEffect_idx]
    next => exact ih x s
  | register c h rest _ ih =>
    unfold runHandler
    split
    next => rw [ih, registerHandler_idx]
    next => exact ih x s

@[simp] theorem handRequest_idx (op len : Byte) (payload : List Byte) (s : State) :
    (handRequest op len payload s).idx = s.idx := by
  rcases handRequest_cases op len payload s with ⟨-, e⟩ | ⟨h, -, e⟩ <;> simp [e]

@[simp] theorem dispatch_idx (s : State) : (dispatch s).idx = s.idx := by
  rcases dispatch_cases s with ⟨-, -, -, e⟩ | ⟨-, -, -, e⟩ | ⟨-, e⟩ <;> simp [e]

/-! ### The receive path -/

@[simp] theorem rxInSentinel_idx (b : Byte) (s : State) : (rxInSentinel b s).idx = s.idx := by
  unfold rxInSentinel
  split
  next => rw [andThen_idx rfl, bufWrite_idx]
  next => rfl

@[simp] theorem reexamine_idx (b : Byte) (s : State) : (reexamine b s).idx = s.idx := by
  unfold reexamine
  split
  next => exact rxInSentinel_idx b s
  next => rfl

@[simp] theorem completeFrame_idx (s : State) : (completeFrame s).idx = s.idx := by
  rcases completeFrame_cases s with ⟨e, -⟩ | ⟨e, -⟩ <;> rw [e, andThen_idx (toSentinel_idx _)]
  · exact dispatch_idx s
  · exact discard_idx s _

theorem rxInTypeByte_idx (b : Byte) (s : State) : (rxInTypeByte b s).idx = s.idx := by
  unfold rxInTypeByte
  split
  next => rw [andThen_idx rfl, bufWrite_idx]
  next => rw [reexamine_idx, discard_idx]

theorem rxInLengthByte_idx (b : Byte) (s : State) : (rxInLengthByte b s).idx = s.idx := by
  unfold rxInLengthByte
  split
  next => rw [andThen_idx rfl, bufWrite_idx]
  next => rw [reexamine_idx, discard_idx]

theorem rxInOpCodeByte_idx (b : Byte) (s : State) : (rxInOpCodeByte b s).idx = s.idx := by
  rw [rxInOpCodeByte, andThen_idx rfl, bufWrite_idx]

theorem rxInDataBytes_idx (b : Byte) (s : State) : (rxInDataBytes b s).idx = s.idx := by
  rw [rxInDataBytes, andThen_idx rfl, bufWrite_idx]

theorem rxInChecksumBytes_idx (b : Byte) (s : State) : (rxInChecksumBytes b s).idx = s.idx := by
  rw [rxInChecksumBytes, andThen_idx, bufWrite_idx]
  dsimp only
  split
  next => exact completeFrame_idx _
  next => rfl

theorem rxRule_idx (st : RxState) (b : Byte) (s : State) : (rxRule st b s).idx = s.idx := by
  cases st with
  | sentinel => exact rxInSentinel_idx b _
  | typeByte => exact rxInTypeByte_idx b _
  | lengthByte => exact rxInLengthByte_idx b _
  | opCodeByte => exact rxInOpCodeByte_idx b _
  | dataBytes => exact rxInDataBytes_idx b _
  | checksumBytes => exact rxInChecksumBytes_idx b _

@[simp] theorem receiveAll_idx (bytes : List Byte) (s : State) : (receiveAll bytes s).idx = s.idx := by
  induction bytes generalizing s with
  | nil => rfl
  | cons b rest ih => rw [receiveAll, andThen_idx (ih _), receive, rxRule_idx]

/-! ### Every instruction -/

theorem idx_of_perform {s t : State} {f : State → State} (h : perform s f = .next t) (hf : (f s).idx = s.idx) :
    t.idx = s.idx := by
  obtain ⟨-, rfl⟩ := perform_cases h
  exact hf

theorem exec_tick_next {s t : State} (h : exec .tick s = .next t) : t = tick s := (perform_cases h).2

theorem exec_idx_of_ne_tick {i : Instr} {s t : State} (h : exec i s = .next t) (hi : i ≠ .tick) : t.idx = s.idx := by
  cases hrx : receives i with
  | true =>
    obtain ⟨bytes, rfl⟩ := exec_receives h hrx
    exact receiveAll_idx bytes s
  | false =>
    unfold exec at h
    cases i with
    | tick => exact absurd rfl hi
    | select address => exact idx_of_perform h (selectAddress_idx address s)
    | strobeWrite => exact idx_of_perform h (pulseWrite_idx s)
    | strobeRead => exact idx_of_perform h (pulseRead_idx s)
    | readInputNibble => exact idx_of_perform h (sampleInput_idx s)
    | writeOutputNibble value => exact idx_of_perform h (driveOutput_idx value s)
    | axisSlot k => exact idx_of_perform h (axisSlot_idx k s)
    | portSlot k => exact idx_of_perform h (portSlot_idx k s)
    | axisReenable k => exact idx_of_perform h (reenable_idx k s)
    | serviceAxis k => exact idx_of_perform h (service_idx k s)
    | portaServiceLo => exact idx_of_perform h (servicePort_idx .lo s)
    | portaServiceHi => exact idx_of_perform h (servicePort_idx .hi s)
    | slotAxis0 | slotAxis1 | slotAxis2 | slotAxis3 | slotAxis4 | slotAxis5 | slotPortaLo | slotPortaHi =>
      exact idx_of_perform h (slotAt_idx _ s)
    | readMotorState | getInput | checksum _ | decodeFrame _ => exact idx_of_perform h (answer_idx s _)
    | setOutput b => exact idx_of_perform h (storeOutput_idx b s)
    | encodeRequest _ _ _ | encodeResponse _ _ _ _ => exact idx_of_perform h (answerFrame_idx _ s)
    | validate buf total => exact idx_of_perform h (answerVerdict_idx _ s)
    | dispatch => exact idx_of_perform h (dispatch_idx s)
    | sendResponse opcode status payload n => exact idx_of_perform h (sendResponse_idx opcode status payload n s)
    | registerHandler g => exact idx_of_perform h (registerHandler_idx g s)
    | appPing _ | appStop _ | appDisable _ | appEnable _ | appClear _ | appMoveRelative _ | appMoveAbsolute _ | appSetPortA _
    | appGetPortA _ | appIsMoving _ | appGetCurrentPosition _ | appMoveAtSpeed _ | appSetRobotID _ | appGetRobotID _
    | appSavePosition _ | appLoadPosition _ => exact idx_of_perform h (handRequest_idx _ _ _ s)
    | _ => cases hrx

/-- Settles O9: TICK advances the counter after its slot, every other operation leaves it. -/
theorem onlyTickMovesTheIndex : Obligations.OnlyTickMovesTheIndex := by
  intro i s t h
  split
  next htick =>
    subst htick
    rw [exec_tick_next h, tick]
  next hne => exact exec_idx_of_ne_tick h hne

end Sys2Proof.Machine
end

section
/-! SUPPORT. The slots as whole next states (41_bus_scheduler.md R141, R142) and TICK as the slot of the device at `idx`
(R140). -/

namespace Sys2Proof.Machine

/-! ### Draws past the address and the trace -/

theorem serviceTaken_update (s : State) (x : BusAddress) (l : List Event) :
    ({ s with a := x, trace := l } : State).serviceTaken = { s.serviceTaken with a := x, trace := l } := by
  cases hdraws : s.answersService <;> simp [State.serviceTaken, hdraws]

theorem sampleTaken_update (s : State) (x : BusAddress) (l : List Event) :
    ({ s with a := x, trace := l } : State).sampleTaken = { s.sampleTaken with a := x, trace := l } := by
  cases hdraws : s.answersDI <;> simp [State.sampleTaken, hdraws]

theorem serviceAnswer_update (s : State) (x : BusAddress) (l : List Event) (i : Axis) :
    ({ s with a := x, trace := l } : State).serviceAnswer i = s.serviceAnswer i := rfl

theorem sampleAnswer_update (s : State) (x : BusAddress) (l : List Event) :
    ({ s with a := x, trace := l } : State).sampleAnswer = s.sampleAnswer := rfl

/-! ### The axis slot -/

/-- The state after a re-enable has asked for the motors-enabled flag, if REENABLE_GATED has it ask (R160). -/
def enabledAsked (s : State) : State := if s.params.reenableGated = true then s.enabledTaken else s

/-- The calls a re-enable makes (R160): none when gated off. -/
def reenableEvents (i : Axis) (s : State) : List Event :=
  if s.params.reenableGated = true ∧ s.enabledAnswer = false then [] else [.axDisable i, .axEnable i]

theorem enabledAsked_motorState (s : State) : (enabledAsked s).motorState = s.motorState := by
  unfold enabledAsked
  split <;> simp

theorem reenable_eq (i : Axis) (s : State) :
    reenable i s = { enabledAsked s with trace := s.trace ++ reenableEvents i s } := by
  rcases reenable_cases i s with ⟨hgated, e⟩ | ⟨hgated, hflag, e⟩ | ⟨hgated, hflag, e⟩
  · simp [e, enabledAsked, reenableEvents, hgated, reenableCalls, State.emit]
  · simp [e, enabledAsked, reenableEvents, hgated, hflag, reenableCalls, State.emit]
  · rw [e, enabledAsked, if_pos hgated, reenableEvents, if_pos ⟨hgated, hflag⟩, List.append_nil, ← enabledTaken_trace s]

theorem axisSlot_eq (i : Axis) (s : State) :
    axisSlot i s =
      { (enabledAsked s).serviceTaken with
        a := axisAddress i
        nIOW := true
        dout := ((enabledAsked s).serviceAnswer i).2
        motorState := setMoving s.motorState i ((enabledAsked s).serviceAnswer i).1
        trace := s.trace ++ reenableEvents i s ++
          [.sel (axisAddress i), .axService i ((enabledAsked s).serviceAnswer i).1 ((enabledAsked s).serviceAnswer i).2,
            .pulseW (axisAddress i) ((enabledAsked s).serviceAnswer i).2] } := by
  rw [axisSlot, reenable_eq, driveAddress_eq, service_eq, pulseWrite_eq]
  simp only [serviceTaken_update, serviceAnswer_update]
  simp only [enabledAsked_motorState, List.append_assoc, List.cons_append, List.nil_append]

/-- Settles O26: AXIS_SLOT is performed, and its four parts add up to one next state. -/
theorem axisSlotRunsInOrder : Obligations.AxisSlotRunsInOrder := by
  intro i s hs
  have hexec : exec (.axisSlot i) s = .next (axisSlot i s) := perform_next _ hs
  rw [hexec, axisSlot_eq]
  rfl

/-! ### The port slot -/

/-- Driving the low nibble zero-extended (43_port_a.md R170) puts that nibble on the lines. -/
theorem lowNibble_zextNibble (v : Nibble) : lowNibble (zextNibble v) = v := by
  simp [lowNibble, zextNibble, BitVec.extractLsb'_setWidth_of_le]

/-- Driving the byte shifted right by four (43_port_a.md R171) puts its high nibble on the lines. -/
theorem lowNibble_highNibbleShifted (b : Byte) : lowNibble (highNibbleShifted b) = b.extractLsb' 4 4 := by
  apply BitVec.eq_of_getLsbD_eq
  intro k hk
  simp [lowNibble, highNibbleShifted, hk]

theorem portSlot_lo_eq (s : State) :
    portSlot .lo s =
      { s.sampleTaken with
        a := 6, nIOW := true, nIOR := true, portInLo := s.sampleAnswer, dout := s.portOut.extractLsb' 0 4
        trace := s.trace ++ [.sel 6, .sample 6 s.sampleAnswer, .out (s.portOut.extractLsb' 0 4),
          .pulseW 6 (s.portOut.extractLsb' 0 4), .pulseR 6] } := by
  rw [portSlot, driveAddress_eq, servicePort, servicePortLo_eq, pulseWrite_eq, pulseRead_eq]
  simp only [sampleTaken_update, sampleAnswer_update, lowNibble_zextNibble, List.append_assoc,
    List.cons_append, List.nil_append]
  rfl

theorem portSlot_hi_eq (s : State) :
    portSlot .hi s =
      { s.sampleTaken with
        a := 7, nIOW := true, nIOR := true, portInHi := s.sampleAnswer, dout := s.portOut.extractLsb' 4 4
        trace := s.trace ++ [.sel 7, .sample 7 s.sampleAnswer, .out (s.portOut.extractLsb' 4 4),
          .pulseW 7 (s.portOut.extractLsb' 4 4), .pulseR 7] } := by
  rw [portSlot, driveAddress_eq, servicePort, servicePortHi_eq, pulseWrite_eq, pulseRead_eq]
  simp only [sampleTaken_update, sampleAnswer_update, lowNibble_highNibbleShifted, List.append_assoc,
    List.cons_append, List.nil_append]
  rfl

/-- Settles O27: PORT_SLOT is performed, and its four parts add up to one next state for each nibble. -/
theorem portSlotRunsInOrder : Obligations.PortSlotRunsInOrder := by
  intro s hs
  have hexec (k : PortNibble) : exec (.portSlot k) s = .next (portSlot k s) := perform_next _ hs
  exact ⟨by rw [hexec, portSlot_lo_eq], by rw [hexec, portSlot_hi_eq]⟩

/-! ### The tick -/

/-- The bus address of a device (20_memory.md R61). -/
def deviceAddress : Device → BusAddress
  | .axis i => axisAddress i
  | .portA k => k.address

theorem deviceAddress_deviceAt (x : BusAddress) : deviceAddress (deviceAt x) = x := by
  revert x
  decide

theorem deviceAt_axisAddress (i : Axis) : deviceAt (axisAddress i) = .axis i := by
  revert i
  decide

theorem exec_tick {s : State} (hs : s.fault = none) : exec .tick s = .next (tick s) := perform_next _ hs

theorem tick_of_deviceAt {s : State} {d : Device} (hd : deviceAt s.idx = d) :
    tick s = { slotAt d s with idx := s.idx + 1 } := by
  rw [tick, hd]

/-- Settles O28: TICK performs the slot of the device at `idx`; the call of a handler raises instead. -/
theorem tickRunsTheSlotAndAdvances : Obligations.TickRunsTheSlotAndAdvances := by
  refine ⟨fun i s hs hidx => ?axis, fun s hs hidx => ?lo, fun s hs hidx => ?hi, fun x s hs => ?reentrant⟩
  case axis =>
    have hd : deviceAt s.idx = .axis i := hidx ▸ deviceAt_axisAddress i
    exact ⟨axisSlot i s, perform_next _ hs, by rw [exec_tick hs, tick_of_deviceAt hd, slotAt]⟩
  case lo =>
    have hd : deviceAt s.idx = .portA .lo := hidx ▸ rfl
    exact ⟨portSlot .lo s, perform_next _ hs, by rw [exec_tick hs, tick_of_deviceAt hd, slotAt, hidx]; rfl⟩
  case hi =>
    have hd : deviceAt s.idx = .portA .hi := hidx ▸ rfl
    exact ⟨portSlot .hi s, perform_next _ hs, by rw [exec_tick hs, tick_of_deviceAt hd, slotAt, hidx]; rfl⟩
  case reentrant => exact raise_of_none _ hs

theorem slotAt_a (d : Device) (s : State) : (slotAt d s).a = deviceAddress d := by
  match d with
  | .axis i => rw [slotAt, axisSlot_eq, deviceAddress]
  | .portA .lo => rw [slotAt, portSlot_lo_eq]; rfl
  | .portA .hi => rw [slotAt, portSlot_hi_eq]; rfl

theorem tick_a (s : State) : (tick s).a = s.idx := (slotAt_a _ s).trans (deviceAddress_deviceAt s.idx)

theorem tick_idx (s : State) : (tick s).idx = s.idx + 1 := rfl

theorem tick_fault (s : State) : (tick s).fault = s.fault := (tick_busFrame s).fault

/-- Settles O32: a tick leaves the address it selected, one before the index; the serial frame keeps both. -/
theorem linesHoldTheLastSelectedAddress : Obligations.LinesHoldTheLastSelectedAddress := by
  refine ⟨fun s t h => ?tick, fun i s t h hbus => ⟨(exec_serialFrame h hbus).a, exec_idx_of_ne_tick h ?off⟩,
    fun _ _ => rfl⟩
  case tick =>
    have hwrap : (1 : BusAddress) + 7 = 0#3 := rfl
    rw [exec_tick_next h, tick_a, tick_idx, BitVec.add_assoc, hwrap, BitVec.add_zero]
  case off =>
    rintro rfl
    cases hbus

end Sys2Proof.Machine
end

section
/-! SUPPORT. The events of a run of ticks (41_bus_scheduler.md R145, R146), read off the devices its ticks visit. -/

namespace Sys2Proof.Machine

/-! ### What each kind of event says of the devices visited -/

/-- The axis an event serves, if it is an `AxService` (10_state.md R40). -/
def servicedAxis : Event → Option Axis
  | .axService i _ _ => some i
  | _ => none

/-- The address an event samples at, if it is a `Sample`. -/
def sampledAt : Event → Option BusAddress
  | .sample x _ => some x
  | _ => none

/-- The address of a write pulse. -/
def writePulsedAt : Event → Option BusAddress
  | .pulseW x _ => some x
  | _ => none

/-- The address of a read pulse. -/
def readPulsedAt : Event → Option BusAddress
  | .pulseR x => some x
  | _ => none

/-- The axis of a device, if it is one. -/
def deviceAxis : Device → Option Axis
  | .axis i => some i
  | .portA _ => none

/-- The address of a device that is sampled and read-strobed: of a Port A nibble (R142). -/
def devicePort : Device → Option BusAddress
  | .axis _ => none
  | .portA k => some k.address

/-- The events of visits of these devices, kind by kind: each is selected and write-strobed, the axes are serviced, the Port A
nibbles sampled and read-strobed. -/
structure VisitEvents (ds : List Device) (events : List Event) : Prop where
  selected : selections events = ds.map deviceAddress
  serviced : events.filterMap servicedAxis = ds.filterMap deviceAxis
  sampled : events.filterMap sampledAt = ds.filterMap devicePort
  writePulsed : events.filterMap writePulsedAt = ds.map deviceAddress
  readPulsed : events.filterMap readPulsedAt = ds.filterMap devicePort

theorem selections_append (l m : List Event) : selections (l ++ m) = selections l ++ selections m := List.filterMap_append

theorem VisitEvents.nil : VisitEvents [] [] := ⟨rfl, rfl, rfl, rfl, rfl⟩

theorem VisitEvents.append {ds es : List Device} {l m : List Event} (h : VisitEvents ds l) (k : VisitEvents es m) :
    VisitEvents (ds ++ es) (l ++ m) where
  selected := by rw [selections_append, h.selected, k.selected, List.map_append]
  serviced := by rw [List.filterMap_append, h.serviced, k.serviced, List.filterMap_append]
  sampled := by rw [List.filterMap_append, h.sampled, k.sampled, List.filterMap_append]
  writePulsed := by rw [List.filterMap_append, h.writePulsed, k.writePulsed, List.map_append]
  readPulsed := by rw [List.filterMap_append, h.readPulsed, k.readPulsed, List.filterMap_append]

/-- The calls of a re-enable are none of the five kinds. -/
theorem reenableEvents_visitEvents (i : Axis) (s : State) : VisitEvents [] (reenableEvents i s) := by
  unfold reenableEvents
  split <;> exact ⟨rfl, rfl, rfl, rfl, rfl⟩

theorem axisService_visitEvents (i : Axis) (r : Bool) (v : Nibble) :
    VisitEvents [.axis i] [.sel (axisAddress i), .axService i r v, .pulseW (axisAddress i) v] :=
  ⟨rfl, rfl, rfl, rfl, rfl⟩

theorem slotAt_trace (d : Device) (s : State) :
    ∃ events, (slotAt d s).trace = s.trace ++ events ∧ VisitEvents [d] events := by
  match d with
  | .axis i =>
    exact ⟨_, by rw [slotAt, axisSlot_eq, List.append_assoc],
      (reenableEvents_visitEvents i s).append (axisService_visitEvents i _ _)⟩
  | .portA .lo => exact ⟨_, by rw [slotAt, portSlot_lo_eq], rfl, rfl, rfl, rfl, rfl⟩
  | .portA .hi => exact ⟨_, by rw [slotAt, portSlot_hi_eq], rfl, rfl, rfl, rfl, rfl⟩

/-! ### A run of ticks -/

theorem runInstrs_cons_of_next {i : Instr} {s t : State} (h : exec i s = .next t) (rest : List Instr) :
    runInstrs (i :: rest) s = runInstrs rest t := by
  rw [runInstrs, h]

/-- The state after `n` ticks. -/
def afterTicks : Nat → State → State
  | 0, s => s
  | n + 1, s => tick (afterTicks n s)

theorem afterTicks_succ (n : Nat) (s : State) : afterTicks (n + 1) s = tick (afterTicks n s) := rfl

/-- The same run with its first tick set apart, as a program performs it. -/
theorem afterTicks_tick (n : Nat) (s : State) : afterTicks n (tick s) = afterTicks (n + 1) s := by
  induction n with
  | zero => rfl
  | succ n ih => rw [afterTicks_succ, ih, ← afterTicks_succ]

theorem runInstrs_ticks (n : Nat) {s : State} (hs : s.fault = none) :
    runInstrs (ticks n) s = .next (afterTicks n s) := by
  induction n generalizing s with
  | zero => rfl
  | succ n ih =>
    rw [ticks, List.replicate_succ, runInstrs_cons_of_next (exec_tick hs), ← afterTicks_tick]
    exact ih ((tick_fault s).trans hs)

theorem afterTicks_fault (n : Nat) (s : State) : (afterTicks n s).fault = s.fault := by
  induction n with
  | zero => rfl
  | succ n ih => rw [afterTicks_succ, tick_fault, ih]

theorem afterTicks_idx (n : Nat) (s : State) : (afterTicks n s).idx = s.idx + BitVec.ofNat 3 n := by
  induction n with
  | zero => exact (BitVec.add_zero s.idx).symm
  | succ n ih =>
    rw [afterTicks_succ, tick_idx, ih, BitVec.ofNat_add, BitVec.add_assoc]
    rfl

/-- The addresses of `n` ticks from `k` on: ascending, wrapping from 7 to 0 (R145). -/
def roundRobin (k : BusAddress) (n : Nat) : List BusAddress := (List.range n).map fun j => k + BitVec.ofNat 3 j

theorem roundRobin_succ (k : BusAddress) (n : Nat) : roundRobin k (n + 1) = roundRobin k n ++ [k + BitVec.ofNat 3 n] := by
  simp [roundRobin, List.range_succ]

theorem afterTicks_trace (n : Nat) (s : State) :
    ∃ events, (afterTicks n s).trace = s.trace ++ events ∧ VisitEvents ((roundRobin s.idx n).map deviceAt) events := by
  induction n with
  | zero => exact ⟨[], (List.append_nil _).symm, .nil⟩
  | succ n ih =>
    obtain ⟨before, htrace, hbefore⟩ := ih
    obtain ⟨last, hslot, hlast⟩ := slotAt_trace (deviceAt (afterTicks n s).idx) (afterTicks n s)
    rw [afterTicks_idx] at hlast
    refine ⟨before ++ last, ?_, ?_⟩
    · rw [afterTicks_succ, ← List.append_assoc, ← htrace]
      exact hslot
    · rw [roundRobin_succ, List.map_append]
      exact hbefore.append hlast

theorem map_deviceAddress_deviceAt (xs : List BusAddress) : (xs.map deviceAt).map deviceAddress = xs := by
  simp [Function.comp_def, deviceAddress_deviceAt]

theorem afterTicks_selections (n : Nat) (s : State) :
    selections (afterTicks n s).trace = selections s.trace ++ roundRobin s.idx n := by
  obtain ⟨events, htrace, hevents⟩ := afterTicks_trace n s
  rw [htrace, selections_append, hevents.selected, map_deviceAddress_deviceAt]

/-- Eight ticks come round to the index they began at. -/
theorem add_ofNat_eight (k : BusAddress) : k + BitVec.ofNat 3 8 = k := BitVec.add_zero k

theorem roundRobin_eight (k : BusAddress) : roundRobin k 8 = [k, k + 1, k + 2, k + 3, k + 4, k + 5, k + 6, k + 7] := by
  simp [roundRobin, List.range_succ]

/-- Settles O30: a run of ticks performs `tick` one after the other, and each tick selects the device at its index. -/
theorem ticksSelectAddressesRoundRobin : Obligations.TicksSelectAddressesRoundRobin := by
  refine ⟨fun n s hs => ?any, fun s hs => ?eight⟩
  case any =>
    exact ⟨afterTicks n s, runInstrs_ticks n hs, (afterTicks_fault n s).trans hs, afterTicks_idx n s,
      afterTicks_selections n s⟩
  case eight =>
    exact ⟨afterTicks 8 s, runInstrs_ticks 8 hs, (afterTicks_idx 8 s).trans (add_ofNat_eight s.idx),
      roundRobin_eight s.idx ▸ afterTicks_selections 8 s⟩

/-- Settles O31: the devices eight ticks visit from index 0, and what a visit of each appends. -/
theorem revolutionEvents : Obligations.RevolutionEvents := by
  intro s hs hidx
  obtain ⟨events, htrace, hevents⟩ := afterTicks_trace 8 s
  rw [hidx] at hevents
  exact ⟨afterTicks 8 s, events, runInstrs_ticks 8 hs, htrace, hevents.selected, hevents.serviced, hevents.sampled,
    hevents.writePulsed, hevents.readPulsed⟩

end Sys2Proof.Machine
end

section
/-! SUPPORT. Port A through its cache (43_port_a.md R172, R173), and the slot in which an output byte reaches its latches
(R174, R175). -/

namespace Sys2Proof.Machine

/-! ### The accessors -/

/-- The zero-extended nibbles, one shifted over the other, are the two nibbles side by side (R173). -/
theorem portInputByte_eq_append (hi lo : Nibble) : portInputByte hi lo = hi ++ lo := by
  apply BitVec.eq_of_getLsbD_eq
  intro k hk
  rw [portInputByte, zextNibble, zextNibble, BitVec.getLsbD_or, BitVec.getLsbD_append]
  by_cases hlow : k < 4
  · simp [hlow, hk]
  · simp [hlow, hk, BitVec.getLsbD_of_ge lo k (Nat.le_of_not_lt hlow)]

theorem exec_setOutput (b : Byte) {s : State} (hs : s.fault = none) : exec (.setOutput b) s = .next (storeOutput b s) :=
  perform_next _ hs

theorem exec_getInput {s : State} (hs : s.fault = none) :
    exec .getInput s = .next (s.answer (.byte (s.portInHi ++ s.portInLo))) := by
  have hexec : exec .getInput s = .next (s.answer (.byte s.inputByte)) :=
    perform_next (fun u => u.answer (.byte u.inputByte)) hs
  rw [hexec, State.inputByte, portInputByte_eq_append]

/-- Settles O23: both accessors are performed; the answer of GET_INPUT is its two nibbles side by side. -/
theorem portAccessorsUseTheCache : Obligations.PortAccessorsUseTheCache :=
  ⟨fun b _ hs => exec_setOutput b hs, fun _ hs => exec_getInput hs⟩

/-! ### A tick at a Port A nibble -/

/-- The nibble of the output byte that a Port A slot latches (R170, R171). -/
def outputNibble : PortNibble → Byte → Nibble
  | .lo, b => b.extractLsb' 0 4
  | .hi, b => b.extractLsb' 4 4

/-- The last three events of a Port A slot: a nibble driven, write-pulsed and read-pulsed (R142). -/
def latchEvents (x : BusAddress) (v : Nibble) : List Event := [.out v, .pulseW x v, .pulseR x]

theorem deviceAt_portAddress (k : PortNibble) : deviceAt k.address = .portA k := by cases k <;> rfl

theorem tick_at_port {s : State} {k : PortNibble} (hidx : s.idx = k.address) :
    tick s = { portSlot k s with idx := k.address + 1 } := by
  rw [tick_of_deviceAt (hidx ▸ deviceAt_portAddress k), slotAt, hidx]

theorem portSlot_trace (k : PortNibble) (s : State) :
    (portSlot k s).trace =
      s.trace ++ [.sel k.address, .sample k.address s.sampleAnswer] ++ latchEvents k.address (outputNibble k s.portOut) := by
  cases k with
  | lo => rw [portSlot_lo_eq, List.append_assoc]; rfl
  | hi => rw [portSlot_hi_eq, List.append_assoc]; rfl

theorem tick_at_port_trace {s : State} {k : PortNibble} (hidx : s.idx = k.address) :
    (tick s).trace =
      s.trace ++ [.sel k.address, .sample k.address s.sampleAnswer] ++ latchEvents k.address (outputNibble k s.portOut) := by
  rw [tick_at_port hidx]
  exact portSlot_trace k s

theorem tick_portInLo {s : State} (hidx : s.idx = 6) : (tick s).portInLo = s.sampleAnswer := by
  rw [tick_at_port (k := .lo) hidx, portSlot_lo_eq]

theorem tick_portInHi {s : State} (hidx : s.idx = 7) : (tick s).portInHi = s.sampleAnswer := by
  rw [tick_at_port (k := .hi) hidx, portSlot_hi_eq]

/-- The slot of the high nibble leaves the cache of the low one. -/
theorem tick_portInLo_kept {s : State} (hidx : s.idx = 7) : (tick s).portInLo = s.portInLo := by
  rw [tick_at_port (k := .hi) hidx, portSlot_hi_eq, ← sampleTaken_portInLo s]

/-! ### The ticks up to a Port A nibble -/

theorem afterTicks_portOut (n : Nat) (s : State) : (afterTicks n s).portOut = s.portOut := by
  induction n with
  | zero => rfl
  | succ n ih => rw [afterTicks_succ, (tick_busFrame _).portOut, ih]

/-- Fewer than eight ticks from `k` on do not visit the address that comes after them. -/
theorem next_notMem_roundRobin (k : BusAddress) {n : Nat} (hn : n < 8) : k + BitVec.ofNat 3 n ∉ roundRobin k n := by
  intro hmem
  obtain ⟨j, hj, heq⟩ := List.mem_map.mp hmem
  have hjn : j < n := List.mem_range.mp hj
  have hmod : j % 8 = n % 8 := congrArg BitVec.toNat ((BitVec.add_right_inj k).mp heq)
  omega

theorem add_ofNat_toNat_sub (k x : BusAddress) : k + BitVec.ofNat 3 (x - k).toNat = x := by
  rw [BitVec.ofNat_toNat, BitVec.setWidth_eq, BitVec.add_comm, BitVec.sub_add_cancel]

theorem writePulsedAt_of_isWritePulseAt {x : BusAddress} {e : Event} (h : isWritePulseAt x e = true) :
    writePulsedAt e = some x := by
  cases e with
  | pulseW y v => exact congrArg some (eq_of_beq h)
  | _ => cases h

theorem all_not_isWritePulseAt {x : BusAddress} {l : List Event} (h : x ∉ l.filterMap writePulsedAt) :
    l.all (fun e => !isWritePulseAt x e) = true := by
  refine List.all_eq_true.mpr fun e he => ?_
  rw [Bool.not_eq_true', Bool.eq_false_iff]
  exact fun hpulse => h (List.mem_filterMap.mpr ⟨e, he, writePulsedAt_of_isWritePulseAt hpulse⟩)

/-- R174 for either nibble: the ticks before the slot of the address visit other addresses only, and its slot ends in the
latch of the nibble of the byte stored. -/
theorem output_reaches_latch (k : PortNibble) (b : Byte) {s : State} (hs : s.fault = none) :
    ∃ (t : State) (d : List Event),
      runInstrs (.setOutput b :: ticks ((k.address - s.idx).toNat + 1)) s = .next t ∧
      t.trace = s.trace ++ d ++ latchEvents k.address (outputNibble k b) ∧
      d.all (fun e => !isWritePulseAt k.address e) = true := by
  let n := (k.address - s.idx).toNat
  let u := afterTicks n (storeOutput b s)
  have hnext : s.idx + BitVec.ofNat 3 n = k.address := add_ofNat_toNat_sub s.idx k.address
  have hidx : u.idx = k.address := (afterTicks_idx n (storeOutput b s)).trans hnext
  have hout : u.portOut = b := afterTicks_portOut n (storeOutput b s)
  obtain ⟨events, htrace, hevents⟩ := afterTicks_trace n (storeOutput b s)
  have hbefore : k.address ∉ events.filterMap writePulsedAt := by
    rw [hevents.writePulsed, map_deviceAddress_deviceAt, ← hnext]
    exact next_notMem_roundRobin s.idx (k.address - s.idx).isLt
  refine ⟨tick u, events ++ [.sel k.address, .sample k.address u.sampleAnswer], ?run, ?trace, ?earlier⟩
  case run =>
    rw [runInstrs_cons_of_next (exec_setOutput b hs)]
    exact runInstrs_ticks (n + 1) hs
  case trace =>
    rw [tick_at_port_trace hidx, hout, ← List.append_assoc s.trace]
    exact congrArg (fun l => l ++ _ ++ _) htrace
  case earlier =>
    rw [List.all_append, all_not_isWritePulseAt hbefore]
    rfl

/-- Settles O24: the latch of each nibble, at its own address. -/
theorem outputReachesTheLatchesInItsSlot : Obligations.OutputReachesTheLatchesInItsSlot :=
  fun b _ hs => ⟨output_reaches_latch .lo b hs, output_reaches_latch .hi b hs⟩

/-- Settles O25: the tick at address 6 latches and samples for the low nibble before the second store, the tick at address 7 for
the high nibble after it. -/
theorem portByteIsNotMovedAtomically : Obligations.PortByteIsNotMovedAtomically := by
  intro x y s hs hidx
  let afterLo := tick (storeOutput x s)
  let u := storeOutput y afterLo
  have hlo : (storeOutput x s).idx = 6 := hidx
  have hhi : u.idx = 7 := congrArg (· + 1) hidx
  have hafterLo : afterLo.fault = none := (tick_fault (storeOutput x s)).trans hs
  have hu : u.fault = none := hafterLo
  have ht : (tick u).fault = none := (tick_fault u).trans hu
  have hinLo : (tick u).portInLo = s.sampleAnswer := (tick_portInLo_kept hhi).trans (tick_portInLo hlo)
  have hinHi : (tick u).portInHi = u.sampleAnswer := tick_portInHi hhi
  refine ⟨(tick u).answer (.byte ((tick u).portInHi ++ (tick u).portInLo)), s.sampleAnswer, u.sampleAnswer,
    ?run, ?trace, hinLo, hinHi, ?ret, ?idx⟩
  case run =>
    calc runInstrs [.setOutput x, .tick, .setOutput y, .tick, .getInput] s
        = runInstrs [.tick, .setOutput y, .tick, .getInput] (storeOutput x s) := runInstrs_cons_of_next (exec_setOutput x hs) _
      _ = runInstrs [.setOutput y, .tick, .getInput] afterLo := runInstrs_cons_of_next (exec_tick (s := storeOutput x s) hs) _
      _ = runInstrs [.tick, .getInput] u := runInstrs_cons_of_next (exec_setOutput y hafterLo) _
      _ = runInstrs [.getInput] (tick u) := runInstrs_cons_of_next (exec_tick hu) _
      _ = .next ((tick u).answer (.byte ((tick u).portInHi ++ (tick u).portInLo))) :=
          runInstrs_cons_of_next (exec_getInput ht) []
  case trace =>
    have htickLo : u.trace = _ := tick_at_port_trace (k := .lo) hlo
    have htickHi := tick_at_port_trace (k := .hi) hhi
    rw [answer_trace, htickHi, htickLo]
    simp only [List.append_assoc]
    rfl
  case ret => rw [answer_ret, hinLo, hinHi]
  case idx => exact congrArg (· + 1) hhi

end Sys2Proof.Machine
end

section
/-! SUPPORT. CHECKSUM (44_frame_codec.md R190, R191) by recursion on the region: a byte in front XORs into the first byte and makes
the old first byte the second, so what CHECKSUM detects follows by induction on the bytes in front of a change. -/

namespace Sys2Proof.Machine

/-! ### The recursion -/

theorem checksum_nil : checksum [] = (0, 0) := rfl

/-- What the accumulators hold at the start stays in them. -/
theorem checksumFrom_acc (region : List Byte) (j : Nat) (acc0 acc1 : Byte) :
    checksumFrom j acc0 acc1 region =
      (acc0 ^^^ (checksumFrom j 0 0 region).1, acc1 ^^^ (checksumFrom j 0 0 region).2) := by
  induction region generalizing j acc0 acc1 with
  | nil => simp [checksumFrom]
  | cons b rest ih =>
    unfold checksumFrom
    split
    · rw [ih, ih (j + 1) (0 ^^^ b)]
      simp [BitVec.xor_assoc]
    · rw [ih, ih (j + 1) 0 (0 ^^^ b)]
      simp [BitVec.xor_assoc]

/-- One position later the two accumulators have traded places. -/
theorem checksumFrom_succ (region : List Byte) (j : Nat) (acc0 acc1 : Byte) :
    checksumFrom (j + 1) acc0 acc1 region = (checksumFrom j acc1 acc0 region).swap := by
  induction region generalizing j acc0 acc1 with
  | nil => rfl
  | cons b rest ih =>
    unfold checksumFrom
    by_cases heven : j % 2 = 0
    · have hodd : ¬(j + 1) % 2 = 0 := by omega
      rw [if_pos heven, if_neg hodd, ih]
    · have hnext : (j + 1) % 2 = 0 := by omega
      rw [if_neg heven, if_pos hnext, ih]

/-- A byte in front goes into the first accumulator and shifts every other byte to the other parity. -/
theorem checksum_cons (b : Byte) (rest : List Byte) :
    checksum (b :: rest) = (b ^^^ (checksum rest).2, (checksum rest).1) :=
  calc checksum (b :: rest) = checksumFrom 1 (0 ^^^ b) 0 rest := rfl
    _ = (checksumFrom 0 0 (0 ^^^ b) rest).swap := checksumFrom_succ rest 0 _ _
    _ = (0 ^^^ b ^^^ (checksum rest).2, 0 ^^^ (checksum rest).1) :=
      congrArg Prod.swap (checksumFrom_acc rest 0 0 (0 ^^^ b))
    _ = (b ^^^ (checksum rest).2, (checksum rest).1) := by simp

theorem exec_checksum (region : List Byte) {s : State} (hs : s.fault = none) :
    exec (.checksum region) s = .next (s.answer (.checksum (checksum region).1 (checksum region).2)) :=
  perform_next (·.answer (.checksum (checksum region).1 (checksum region).2)) hs

/-- Settles O33: two bytes in front are one byte in front, twice. -/
theorem checksumXorsByParity : Obligations.ChecksumXorsByParity := by
  refine ⟨fun region s hs => exec_checksum region hs, checksum_nil, fun b => ?one, fun x y rest => ?two⟩
  case one => simp [checksum_cons, checksum_nil]
  case two => rw [checksum_cons, checksum_cons]

/-! ### What it detects -/

/-- Equal bytes in front neither hide a difference nor make one. -/
theorem checksum_append_eq_iff (p l l' : List Byte) : checksum (p ++ l) = checksum (p ++ l') ↔ checksum l = checksum l' := by
  induction p with
  | nil => exact Iff.rfl
  | cons b p ih =>
    rw [List.cons_append, List.cons_append, checksum_cons, checksum_cons, ← ih, Prod.ext_iff, Prod.ext_iff,
      BitVec.xor_right_inj, and_comm]

/-- A change at position `j` reaches the accumulator of the parity of `j`, and no other. -/
theorem checksum_set_xor {r : List Byte} {j : Nat} (e : Byte) (hj : j < r.length) :
    checksum (r.set j (r.getD j 0 ^^^ e)) =
      if j % 2 = 0 then ((checksum r).1 ^^^ e, (checksum r).2) else ((checksum r).1, (checksum r).2 ^^^ e) := by
  induction r generalizing j with
  | nil => cases hj
  | cons b r ih =>
    cases j with
    | zero =>
      rw [List.set_cons_zero, List.getD_cons_zero, checksum_cons, checksum_cons, if_pos (Nat.zero_mod 2), BitVec.xor_assoc,
        BitVec.xor_assoc, BitVec.xor_comm e]
    | succ j =>
      rw [List.set_cons_succ, List.getD_cons_succ, checksum_cons, checksum_cons, ih (Nat.lt_of_succ_lt_succ hj)]
      by_cases heven : j % 2 = 0
      · have hodd : ¬(j + 1) % 2 = 0 := by omega
        rw [if_pos heven, if_neg hodd]
      · have heven' : (j + 1) % 2 = 0 := by omega
        rw [if_neg heven, if_pos heven', BitVec.xor_assoc]

/-- CHECKSUM is linear: a masked region has the XOR of the two checksums. -/
theorem checksum_zipWith_xor {r masks : List Byte} (hlen : r.length = masks.length) :
    checksum (List.zipWith (· ^^^ ·) r masks) =
      ((checksum r).1 ^^^ (checksum masks).1, (checksum r).2 ^^^ (checksum masks).2) := by
  induction r generalizing masks with
  | nil =>
    obtain rfl : masks = [] := List.length_eq_zero_iff.mp hlen.symm
    rfl
  | cons b r ih =>
    cases masks with
    | nil => cases hlen
    | cons m masks =>
      rw [List.zipWith_cons_cons, checksum_cons, checksum_cons, checksum_cons, ih (Nat.succ.inj hlen)]
      dsimp only
      ac_rfl

/-- A mask leaves a byte as it was exactly when it is zero. -/
theorem xor_eq_self_iff (x mask : Byte) : x ^^^ mask = x ↔ mask = 0 := by
  have hcancel : x ^^^ mask = x ^^^ 0#8 ↔ mask = 0#8 := BitVec.xor_right_inj x
  rwa [BitVec.xor_zero] at hcancel

theorem checksum_zipWith_xor_eq_iff {r masks : List Byte} (hlen : r.length = masks.length) :
    checksum (List.zipWith (· ^^^ ·) r masks) = checksum r ↔ checksum masks = (0, 0) := by
  rw [checksum_zipWith_xor hlen, Prod.ext_iff, Prod.ext_iff, xor_eq_self_iff, xor_eq_self_iff]

/-- Swapped neighbours trade places between the two accumulators, so only equal ones leave both as they were. -/
theorem checksum_swap_eq_iff (x y : Byte) (q : List Byte) : checksum (x :: y :: q) = checksum (y :: x :: q) ↔ x = y := by
  rw [checksum_cons, checksum_cons, checksum_cons, checksum_cons, Prod.ext_iff, BitVec.xor_left_inj, BitVec.xor_left_inj,
    eq_comm (a := y), and_self]

/-- Settles O34: one change by its parity, many by linearity, a swap by its first byte past the common part in front. -/
theorem checksumErrorDetection : Obligations.ChecksumErrorDetection :=
  ⟨fun _ _ e hj => checksum_set_xor e hj, fun _ _ hlen => checksum_zipWith_xor_eq_iff hlen,
    fun p q x y => (checksum_append_eq_iff p _ _).trans (checksum_swap_eq_iff x y q)⟩

end Sys2Proof.Machine
end

section
/-! SUPPORT. The codec's operations (44_frame_codec.md R192 to R198): VALIDATE as the chain of its checks, DECODE by the type and
Length of a valid frame, and that both take back what the encodes build. -/

namespace Sys2Proof.Machine

/-! ### The encodes -/

/-- The Length of R86 with the two one-byte terms added in either order. -/
theorem responseLength_eq (n : Nat) : responseLength n = BitVec.ofNat 8 (n + 2) := (BitVec.ofNat_add n 2).symm

theorem exec_encodeRequest (opcode : Byte) (payload : List Byte) (n : Nat) {s : State} (hs : s.fault = none) :
    exec (.encodeRequest opcode payload n) s = .next (s.answerFrame (encodeRequestBytes opcode payload n)) :=
  perform_next (·.answerFrame (encodeRequestBytes opcode payload n)) hs

theorem exec_encodeResponse (opcode status : Byte) (payload : List Byte) (n : Nat) {s : State} (hs : s.fault = none) :
    exec (.encodeResponse opcode status payload n) s = .next (s.answerFrame (encodeResponseBytes opcode status payload n)) :=
  perform_next (·.answerFrame (encodeResponseBytes opcode status payload n)) hs

/-- An encode's fault is recorded in the mark, which was not set. -/
theorem answerFrame_error {s : State} (hs : s.fault = none) (r : Fault) :
    s.answerFrame (.error r) = { s with fault := some r } := raise_of_none r hs

/-- Settles O35: each encode within its limit and outside it. -/
theorem encodeBuildsTheFrame : Obligations.EncodeBuildsTheFrame := by
  refine ⟨fun opcode payload n s hs => ?request, fun opcode status payload n s hs => ?response⟩
  case request =>
    rw [exec_encodeRequest _ _ _ hs]
    rcases encodeRequestBytes_cases opcode payload n with ⟨hn, hmax, e⟩ | ⟨hout, e⟩
    · rw [e, if_pos ⟨hn, hmax⟩, requestFrame, requestLength_eq]
      rfl
    · rw [e, if_neg (by omega), answerFrame_error hs]
  case response =>
    rw [exec_encodeResponse _ _ _ _ hs]
    rcases encodeResponseBytes_cases opcode status payload n with ⟨hn, hmax, e⟩ | ⟨hout, e⟩
    · rw [e, if_pos ⟨hn, hmax⟩, responseFrame, responseLength_eq]
      rfl
    · rw [e, if_neg (by omega), answerFrame_error hs]

theorem exec_encodeRequest_of_le (opcode : Byte) {payload : List Byte} (hmax : payload.length ≤ 26) {s : State}
    (hs : s.fault = none) :
    exec (.encodeRequest opcode payload payload.length) s =
      .next { s with ret := .frame (requestFrame opcode payload payload.length) } := by
  rw [exec_encodeRequest _ _ _ hs, encodeRequestBytes, if_neg (by omega)]
  rfl

theorem exec_encodeResponse_of_le (opcode status : Byte) {payload : List Byte} (hmax : payload.length ≤ 25) {s : State}
    (hs : s.fault = none) :
    exec (.encodeResponse opcode status payload payload.length) s =
      .next { s with ret := .frame (responseFrame opcode status payload payload.length) } := by
  rw [exec_encodeResponse _ _ _ _ hs, encodeResponseBytes, if_neg (by omega)]
  rfl

/-! ### VALIDATE -/

theorem exec_validate (buf : List Byte) (total : Nat) {s : State} (hs : s.fault = none) :
    exec (.validate buf total) s = .next (s.answerVerdict (validateBytes buf total)) :=
  perform_next (·.answerVerdict (validateBytes buf total)) hs

theorem answerVerdict_ite (s : State) (c : Prop) [Decidable c] (v w : Verdict) :
    s.answerVerdict (.ok (if c then v else w)) = if c then s.answerVerdict (.ok v) else s.answerVerdict (.ok w) :=
  apply_ite (fun u => s.answerVerdict (.ok u)) c v w

/-- A Length byte is told by its value, as no total length in range wraps. -/
theorem toNat_eq_sub_iff (len : Byte) {total : Nat} (hmax : total ≤ 32) :
    len.toNat = total - 5 ↔ len = BitVec.ofNat 8 (total - 5) := by
  rw [BitVec.toNat_eq, BitVec.toNat_ofNat, Nat.mod_eq_of_lt (by omega)]

/-- The checks of R194 past the ranges, with the two checksum bytes compared one by one. -/
theorem frameVerdict_eq (buf : List Byte) {total : Nat} (hmax : total ≤ 32) :
    frameVerdict buf total =
      if buf.getD 2 0 ≠ BitVec.ofNat 8 (total - 5) then .lenMismatch
      else if buf.getD 0 0 ≠ 0xAA then .sentinel
      else if ¬(buf.getD 1 0 = 0x01 ∨ buf.getD 1 0 = 0x02) then .type
      else if (checksum (buf.take (total - 2))).1 ≠ buf.getD (total - 2) 0 ∨
          (checksum (buf.take (total - 2))).2 ≠ buf.getD (total - 1) 0 then .checksum
      else .ok := by
  simp only [frameVerdict, ne_eq, toNat_eq_sub_iff _ hmax, Prod.ext_iff, Classical.not_and_iff_not_or_not, not_or]
  rfl

/-- A frame is accepted exactly when every check of R194 passes. -/
theorem frameVerdict_eq_ok_iff (buf : List Byte) (total : Nat) :
    frameVerdict buf total = .ok ↔
      (byteAt buf 2).toNat = total - 5 ∧ byteAt buf 0 = sentinelByte ∧
      (byteAt buf 1 = typeRequest ∨ byteAt buf 1 = typeResponse) ∧
      checksum (buf.take (total - 2)) = (byteAt buf (total - 2), byteAt buf (total - 1)) := by
  unfold frameVerdict
  split
  next hlen => exact iff_of_false nofun fun ⟨h, _⟩ => hlen h
  next hlen =>
    split
    next hsentinel => exact iff_of_false nofun fun ⟨_, h, _⟩ => hsentinel h
    next hsentinel =>
      split
      next htype => exact iff_of_false nofun fun ⟨_, _, h, _⟩ => not_or.mpr htype h
      next htype =>
        split
        next hsum => exact iff_of_false nofun fun ⟨_, _, _, h⟩ => hsum h
        next hsum =>
          exact iff_of_true rfl
            ⟨Decidable.not_not.mp hlen, Decidable.not_not.mp hsentinel, Decidable.not_not.mp (htype ∘ not_or.mp),
              Decidable.not_not.mp hsum⟩

/-- Settles O36: the two ranges by the cases of VALIDATE, then the chain of checks, one verdict each. -/
theorem validateChecksInOrder : Obligations.ValidateChecksInOrder := by
  intro buf total s hs
  rw [exec_validate buf total hs]
  rcases validateBytes_cases buf total with ⟨hrange, e⟩ | ⟨⟨hmin, hmax⟩, hshort, e⟩ | ⟨⟨hmin, hmax⟩, hlong, e⟩
  · rw [e, if_pos hrange]
    rfl
  · rw [e, if_neg (by omega), if_pos hshort]
    exact congrArg _ (raise_of_none _ hs)
  · rw [e, if_neg (by omega), if_neg (by omega), frameVerdict_eq buf hmax]
    simp only [answerVerdict_ite]
    rfl

/-! ### DECODE -/

theorem decodeBytes_of_rejected {f : List Byte} (h : validateBytes f f.length ≠ .ok .ok) : decodeBytes f = none := by
  unfold decodeBytes
  dsimp only
  split
  next hok => exact absurd hok h
  next => rfl

theorem decodeBytes_request {f : List Byte} (hok : validateBytes f f.length = .ok .ok) (htype : byteAt f 1 = typeRequest) :
    decodeBytes f = some { type := .request, op := byteAt f 3, len := byteAt f 2, status := none,
                           payload := (f.take (f.length - 2)).drop 4 } := by
  simp only [decodeBytes, hok, htype, if_true]

theorem decodeBytes_response_one {f : List Byte} (hok : validateBytes f f.length = .ok .ok)
    (htype : byteAt f 1 = typeResponse) (hlen : byteAt f 2 = 1) :
    decodeBytes f = some { type := .response, op := byteAt f 3, len := 1, status := none, payload := [] } := by
  have hne : typeResponse ≠ typeRequest := by decide
  simp only [decodeBytes, hok, htype, if_neg hne, hlen, if_true]

theorem decodeBytes_response {f : List Byte} (hok : validateBytes f f.length = .ok .ok)
    (htype : byteAt f 1 = typeResponse) (hlen : byteAt f 2 ≠ 1) :
    decodeBytes f = some { type := .response, op := byteAt f 3, len := byteAt f 2, status := some (byteAt f 4),
                           payload := (f.take (f.length - 2)).drop 5 } := by
  have hne : typeResponse ≠ typeRequest := by decide
  simp only [decodeBytes, hok, htype, if_neg hne, if_neg hlen]

theorem exec_decodeFrame (f : List Byte) {s : State} (hs : s.fault = none) :
    exec (.decodeFrame f) s = .next (s.answer (.decoded (decodeBytes f))) :=
  perform_next (·.answer (.decoded (decodeBytes f))) hs

/-- Cutting the header before the two checksum bytes or after them leaves the same payload. -/
theorem drop_take_length_sub_two (f : List Byte) (k : Nat) :
    (f.take (f.length - 2)).drop k = (f.drop k).take (f.length - (2 + k)) := by
  rw [List.drop_take, Nat.sub_sub]

/-- Settles O37: DECODE's branches, with the payload cut out in the other order. -/
theorem decodeTakesApartValidFrames : Obligations.DecodeTakesApartValidFrames := by
  refine ⟨fun f s hs => exec_decodeFrame f hs, fun f => decodeBytes_of_rejected, fun f hok htype => ?request,
    fun f hok htype hlen => decodeBytes_response_one hok htype hlen, fun f hok htype hlen => ?response⟩
  case request =>
    rw [decodeBytes_request hok htype, drop_take_length_sub_two]
    rfl
  case response =>
    rw [decodeBytes_response hok htype hlen, drop_take_length_sub_two]
    rfl

/-! ### What is encoded validates and decodes -/

theorem length_withChecksum (region : List Byte) : (withChecksum region).length = region.length + 2 :=
  List.length_append

/-- Without its last two bytes a frame is the region the checksum was taken of. -/
theorem take_withChecksum (region : List Byte) :
    (withChecksum region).take ((withChecksum region).length - 2) = region := by
  rw [length_withChecksum, Nat.add_sub_cancel]
  exact List.take_left

/-- The comparison of R194's last check: the two bytes behind a region are its checksum. -/
theorem checksum_take_withChecksum {region f : List Byte} (hf : f = withChecksum region) :
    checksum (f.take (f.length - 2)) = (byteAt f (f.length - 2), byteAt f (f.length - 1)) := by
  rw [hf, take_withChecksum, length_withChecksum]
  simp [byteAt, withChecksum]

/-- R196 for both types at once: a header of either type, the Length of the body, and the checksum make a valid frame. -/
theorem validateBytes_withChecksum {type : Byte} {body : List Byte} (htype : type = typeRequest ∨ type = typeResponse)
    (hmin : 1 ≤ body.length) (hmax : body.length ≤ 27) {f : List Byte}
    (hf : f = withChecksum (sentinelByte :: type :: BitVec.ofNat 8 body.length :: body)) :
    validateBytes f f.length = .ok .ok := by
  have hlength : f.length = body.length + 5 := hf ▸ length_withChecksum _
  have hlen : (byteAt f 2).toNat = f.length - 5 := by
    rw [toNat_eq_sub_iff _ (by omega), hlength, hf]
    rfl
  have hverdict : frameVerdict f f.length = .ok :=
    (frameVerdict_eq_ok_iff f f.length).mpr ⟨hlen, hf ▸ rfl, hf ▸ htype, checksum_take_withChecksum hf⟩
  rcases validateBytes_cases f f.length with ⟨hrange, -⟩ | ⟨-, hshort, -⟩ | ⟨-, -, e⟩
  · omega
  · omega
  · rw [e, hverdict]

theorem validateBytes_requestFrame (opcode : Byte) {payload : List Byte} (hmax : payload.length ≤ 26) :
    validateBytes (requestFrame opcode payload payload.length) (requestFrame opcode payload payload.length).length = .ok .ok :=
  validateBytes_withChecksum (body := opcode :: payload) (.inl rfl) (Nat.le_add_left 1 _) (Nat.succ_le_succ hmax)
    (by rw [requestFrame, requestLength_eq]; rfl)

theorem validateBytes_responseFrame (opcode status : Byte) {payload : List Byte} (hmax : payload.length ≤ 25) :
    validateBytes (responseFrame opcode status payload payload.length)
      (responseFrame opcode status payload payload.length).length = .ok .ok :=
  validateBytes_withChecksum (body := opcode :: status :: payload) (.inr rfl) (Nat.le_add_left 1 _)
    (Nat.succ_le_succ (Nat.succ_le_succ hmax)) (by rw [responseFrame, responseLength_eq]; rfl)

theorem exec_validate_of_ok {f : List Byte} (hok : validateBytes f f.length = .ok .ok) {s : State} (hs : s.fault = none) :
    exec (.validate f f.length) s = .next { s with ret := .verdict .ok } := by
  rw [exec_validate f f.length hs, hok]
  rfl

/-- Settles O38: both encodes build a frame of a valid shape. -/
theorem encodedFramesValidate : Obligations.EncodedFramesValidate :=
  ⟨fun opcode _ _ hs hmax => ⟨_, exec_encodeRequest_of_le opcode hmax hs,
      exec_validate_of_ok (validateBytes_requestFrame opcode hmax) hs⟩,
    fun opcode status _ _ hs hmax => ⟨_, exec_encodeResponse_of_le opcode status hmax hs,
      exec_validate_of_ok (validateBytes_responseFrame opcode status hmax) hs⟩⟩

/-- R198 for a request: the frame validates, and what is left without its header and checksum is the payload. -/
theorem decodeBytes_requestFrame (opcode : Byte) {payload : List Byte} (hmax : payload.length ≤ 26) :
    decodeBytes (requestFrame opcode payload payload.length) =
      some { type := .request, op := opcode, len := BitVec.ofNat 8 (payload.length + 1), status := none,
             payload := payload } := by
  rw [decodeBytes_request (validateBytes_requestFrame opcode hmax) rfl, ← requestLength_eq, requestFrame,
    take_withChecksum]
  rfl

/-- R198 for a response: its Length is never 1, so status and payload are given back. -/
theorem decodeBytes_responseFrame (opcode status : Byte) {payload : List Byte} (hmax : payload.length ≤ 25) :
    decodeBytes (responseFrame opcode status payload payload.length) =
      some { type := .response, op := opcode, len := BitVec.ofNat 8 (payload.length + 2), status := some status,
             payload := payload } := by
  have hlen : responseLength payload.length ≠ 1 := by
    rw [responseLength_eq, ne_eq, BitVec.toNat_eq, BitVec.toNat_ofNat, Nat.mod_eq_of_lt (by omega)]
    exact Nat.succ_ne_succ_iff.mpr (Nat.succ_ne_zero _)
  rw [decodeBytes_response (validateBytes_responseFrame opcode status hmax) rfl hlen, ← responseLength_eq, responseFrame,
    take_withChecksum]
  rfl

/-- Settles O39: DECODE of the frame that was built. -/
theorem decodeInvertsEncode : Obligations.DecodeInvertsEncode := by
  refine ⟨fun opcode payload s hs hmax => ⟨_, exec_encodeRequest_of_le opcode hmax hs, ?request⟩,
    fun opcode status payload s hs hmax => ⟨_, exec_encodeResponse_of_le opcode status hmax hs, ?response⟩⟩
  case request =>
    rw [exec_decodeFrame _ hs, decodeBytes_requestFrame opcode hmax]
    rfl
  case response =>
    rw [exec_decodeFrame _ hs, decodeBytes_responseFrame opcode status hmax]
    rfl

end Sys2Proof.Machine
end


section
/-! SUPPORT. RX_BYTE as a whole next state in each receiver state (45_receiver.md R231 to R236), the comparison a frame is completed
by (R237), and the bound on the bytes up to Sentinel (R245). -/

namespace Sys2Proof.Machine

/-! ### RX_BYTE by its word and by its key -/

theorem exec_rxByte (b : Byte) {s : State} (hs : s.fault = none) : exec (.rxByte b) s = .next (receive b s) :=
  perform_next _ hs

theorem receive_of_rxState {s : State} {st : RxState} (b : Byte) (hst : s.rxState = st) : receive b s = rxRule st b s := by
  rw [receive, hst]

/-- In the state its key names a transition is RX_BYTE (R230). -/
theorem rxTransition_of_rxState {s : State} {key : RxState} (b : Byte) (hs : s.fault = none) (hst : s.rxState = key) :
    rxTransition key b s = .next (receive b s) := by
  simp [rxTransition, hs, receive, hst]

/-! ### The six rules -/

section Rules

variable {s : State} (b : Byte)

theorem rxInSentinel_eq (hs : s.fault = none) :
    rxInSentinel b s =
      if b = sentinelByte then { s with buf := s.buf.write 0 b, pos := 1, rxState := .typeByte }
      else { s with rxCause := some .staySentinel } := by
  unfold rxInSentinel
  split
  next => exact bufWrite_andThen b _ hs (by decide)
  next => rfl

/-- A discarded frame: the byte is used up, or a 0xAA starts the next one under RESYNC_REEXAMINE (D11). -/
theorem reexamine_discard_eq (c : RxCause) (hs : s.fault = none) :
    reexamine b (s.discard c) =
      if s.params.resyncReexamine = true ∧ b = sentinelByte then
        { s with buf := s.buf.write 0 b, pos := 1, rxState := .typeByte, rxCause := some c }
      else { s with rxState := .sentinel, pos := 0, rxCause := some c } := by
  unfold reexamine
  split
  next h => exact ((rxInSentinel_eq (s := s.discard c) b hs).trans (if_pos h.2)).trans (if_pos h).symm
  next h => exact (if_neg h).symm

theorem receive_sentinel (hs : s.fault = none) (hst : s.rxState = .sentinel) :
    receive b s =
      if b = sentinelByte then { s with buf := s.buf.write 0 b, pos := 1, rxState := .typeByte, rxCause := none }
      else { s with rxCause := some .staySentinel } := by
  rw [receive_of_rxState b hst]
  exact rxInSentinel_eq (s := { s with rxCause := none }) b hs

theorem receive_typeByte (hs : s.fault = none) (hst : s.rxState = .typeByte) :
    receive b s =
      if b = typeRequest ∨ b = typeResponse then
        { s with buf := s.buf.write 1 b, pos := 2, rxState := .lengthByte, rxCause := none }
      else if s.params.resyncReexamine = true ∧ b = sentinelByte then
        { s with buf := s.buf.write 0 b, pos := 1, rxState := .typeByte, rxCause := some .badType }
      else { s with rxState := .sentinel, pos := 0, rxCause := some .badType } := by
  rw [receive_of_rxState b hst, rxRule, rxInTypeByte]
  split
  next => exact bufWrite_andThen b _ hs (by decide)
  next => exact reexamine_discard_eq (s := { s with rxCause := none }) b .badType hs

theorem receive_lengthByte (hs : s.fault = none) (hst : s.rxState = .lengthByte) :
    receive b s =
      if 1 ≤ b.toNat ∧ b.toNat ≤ 27 then
        { s with buf := s.buf.write 2 b, rxLen := b, pos := 3, rxState := .opCodeByte, rxCause := none }
      else if s.params.resyncReexamine = true ∧ b = sentinelByte then
        { s with buf := s.buf.write 0 b, pos := 1, rxState := .typeByte, rxCause := some .badLength }
      else { s with rxState := .sentinel, pos := 0, rxCause := some .badLength } := by
  rw [receive_of_rxState b hst, rxRule, rxInLengthByte]
  split
  next => exact bufWrite_andThen b _ hs (by decide)
  next => exact reexamine_discard_eq (s := { s with rxCause := none }) b .badLength hs

theorem receive_opCodeByte (hs : s.fault = none) (hst : s.rxState = .opCodeByte) :
    receive b s =
      { s with buf := s.buf.write 3 b, pos := 4, rxCause := none,
               rxState := if 1 < s.rxLen.toNat then .dataBytes else .checksumBytes } := by
  rw [receive_of_rxState b hst, rxRule, rxInOpCodeByte]
  exact bufWrite_andThen b _ hs (by decide)

theorem receive_dataBytes (hs : s.fault = none) (hst : s.rxState = .dataBytes) (hpos : s.pos < bufferSize) :
    receive b s =
      { s with buf := s.buf.write s.pos b, pos := s.pos + 1, rxCause := none,
               rxState := if s.pos + 1 = s.rxLen.toNat + 3 then .checksumBytes else .dataBytes } := by
  rw [receive_of_rxState b hst, rxRule, rxInDataBytes, ← hst]
  exact bufWrite_andThen b _ hs hpos

/-- The state in which the receiver looks whether the byte it stored was the frame's last (R236). -/
def checksumByteStored (b : Byte) (s : State) : State :=
  { s with buf := s.buf.write s.pos b, pos := s.pos + 1, rxCause := none }

theorem receive_checksumBytes (hs : s.fault = none) (hst : s.rxState = .checksumBytes) (hpos : s.pos < bufferSize) :
    receive b s =
      if s.pos + 1 = totalLength s.rxLen then completeFrame (checksumByteStored b s) else checksumByteStored b s := by
  rw [receive_of_rxState b hst, rxRule, rxInChecksumBytes]
  exact bufWrite_andThen b _ hs hpos

end Rules

/-- Settles O40: the rule of Sentinel, one cause code for each of its outcomes. -/
theorem sentinelWaitsForTheSentinelByte : Obligations.SentinelWaitsForTheSentinelByte := by
  intro b s hs hst
  have hword := exec_rxByte b hs
  have hkey : exec (.rxSentinel b) s = .next (receive b s) := rxTransition_of_rxState b hs hst
  have hreceive := receive_sentinel b hs hst
  by_cases hb : b = sentinelByte
  · exact ⟨_, none, hword, hkey, hreceive.trans ((if_pos hb).trans (if_pos hb).symm)⟩
  · exact ⟨_, some .staySentinel, hword, hkey, hreceive.trans ((if_neg hb).trans (if_neg hb).symm)⟩

/-- Settles O41: the rule of TypeByte, one cause code for a byte accepted and one for a byte that falls back. -/
theorem typeByteAcceptsOneOrTwo : Obligations.TypeByteAcceptsOneOrTwo := by
  intro b s hs hst
  have hword := exec_rxByte b hs
  have hkey : exec (.rxTypeByte b) s = .next (receive b s) := rxTransition_of_rxState b hs hst
  have hreceive := receive_typeByte b hs hst
  by_cases hb : b = typeRequest ∨ b = typeResponse
  · exact ⟨_, none, hword, hkey, hreceive.trans ((if_pos hb).trans (if_pos hb).symm)⟩
  · exact ⟨_, some .badType, hword, hkey, hreceive.trans ((if_neg hb).trans (if_neg hb).symm)⟩

/-- Settles O42: the rule of LengthByte, one cause code for a byte accepted and one for a byte that falls back. -/
theorem lengthByteAcceptsOneToTwentySeven : Obligations.LengthByteAcceptsOneToTwentySeven := by
  intro b s hs hst
  have hword := exec_rxByte b hs
  have hkey : exec (.rxLengthByte b) s = .next (receive b s) := rxTransition_of_rxState b hs hst
  have hreceive := receive_lengthByte b hs hst
  by_cases hb : 1 ≤ b.toNat ∧ b.toNat ≤ 27
  · exact ⟨_, none, hword, hkey, hreceive.trans ((if_pos hb).trans (if_pos hb).symm)⟩
  · exact ⟨_, some .badLength, hword, hkey, hreceive.trans ((if_neg hb).trans (if_neg hb).symm)⟩

/-! ### Between steps the position is inside the buffer -/

theorem inv_receiver {s : State} (hinv : s.Inv) (hs : s.fault = none) :
    s.buf.wf = true ∧ receiverShape s = true ∧ HeaderOf s.buf s.pos s.rxLen := by
  obtain ⟨-, -, hbuf, hrx⟩ := hinv
  obtain ⟨hshape, hstored⟩ := hrx hs
  exact ⟨hbuf, hshape, (headerStored_iff s).mp hstored⟩

/-- Past the header the position is inside the frame, and the frame inside the buffer. -/
theorem pos_bounds_of_body {s : State} (hshape : receiverShape s = true)
    (hst : s.rxState = .opCodeByte ∨ s.rxState = .dataBytes ∨ s.rxState = .checksumBytes) :
    3 ≤ s.pos ∧ s.pos < totalLength s.rxLen ∧ totalLength s.rxLen ≤ bufferSize := by
  unfold totalLength bufferSize
  rcases hst with h | h | h
  · have hrow := (receiverShape_opCodeByte h).mp hshape
    omega
  · have hrow := (receiverShape_dataBytes h).mp hshape
    omega
  · have hrow := (receiverShape_checksumBytes h).mp hshape
    omega

theorem pos_lt_bufferSize {s : State} (hshape : receiverShape s = true)
    (hst : s.rxState = .opCodeByte ∨ s.rxState = .dataBytes ∨ s.rxState = .checksumBytes) : s.pos < bufferSize :=
  have ⟨_, hinside, hframe⟩ := pos_bounds_of_body hshape hst
  Nat.lt_of_lt_of_le hinside hframe

/-- Settles O43: the rules of OpCodeByte and DataBytes; R36 puts the data byte inside the buffer. -/
theorem opCodeAndDataBytesAreStored : Obligations.OpCodeAndDataBytesAreStored := by
  refine ⟨fun b s hs hst => ?opCode, fun b s hinv hs hst => ?data⟩
  case opCode =>
    exact ⟨receive b s, none, exec_rxByte b hs, rxTransition_of_rxState b hs hst, receive_opCodeByte b hs hst⟩
  case data =>
    obtain ⟨-, hshape, -⟩ := inv_receiver hinv hs
    exact ⟨receive b s, none, exec_rxByte b hs, rxTransition_of_rxState b hs hst,
      receive_dataBytes b hs hst (pos_lt_bufferSize hshape (.inr (.inl hst)))⟩

/-! ### The completion of a frame -/

/-- The comparison that completes a frame (R236): the last two of its `total` bytes are CHECKSUM of those before them. -/
def ChecksumMatches (m : Memory) (total : Nat) : Prop :=
  checksum (m.slice 0 (total - 2)) = (m.read (total - 2), m.read (total - 1))

theorem andThen_eq_ite (s : State) (f : State → State) : s.andThen f = if s.fault = none then f s else s := by
  rcases andThen_cases s f with e | ⟨e, hf⟩
  · cases hs : s.fault with
    | none => rw [e, if_pos rfl]
    | some r => rw [andThen_of_some f hs, if_neg nofun]
  · rw [e, if_neg hf]

theorem completeFrame_of_matches {s : State} (h : ChecksumMatches s.buf (totalLength s.rxLen)) :
    completeFrame s = (dispatch s).andThen toSentinel := by
  rcases completeFrame_cases s with ⟨e, -⟩ | ⟨-, hne⟩
  · exact e
  · exact absurd h hne

/-- A wrong checksum is a discard, which is back in Sentinel already. -/
theorem completeFrame_of_not_matches {s : State} (hs : s.fault = none) (h : ¬ChecksumMatches s.buf (totalLength s.rxLen)) :
    completeFrame s = s.discard .badChecksum := by
  rcases completeFrame_cases s with ⟨-, heq⟩ | ⟨e, -⟩
  · exact absurd heq h
  · exact e.trans (andThen_of_none toSentinel hs)

theorem exec_dispatch {s : State} (hs : s.fault = none) : exec .dispatch s = .next (dispatch s) := perform_next _ hs

/-- Settles O45: the byte is stored, and past the last position the comparison decides. -/
theorem checksumBytesCompleteTheFrame : Obligations.ChecksumBytesCompleteTheFrame := by
  intro b s hinv hs hst
  obtain ⟨-, hshape, -⟩ := inv_receiver hinv hs
  have hreceive := receive_checksumBytes b hs hst (pos_lt_bufferSize hshape (.inr (.inr hst)))
  refine ⟨receive b s, exec_rxByte b hs, rxTransition_of_rxState b hs hst, fun hmore => ?more, fun hlast hbad => ?bad,
    fun hlast hgood => ?good⟩
  case more => exact hreceive.trans (if_neg hmore)
  case bad =>
    exact (hreceive.trans (if_pos hlast)).trans (completeFrame_of_not_matches (s := checksumByteStored b s) hs hbad)
  case good =>
    refine ⟨dispatch (checksumByteStored b s), exec_dispatch (s := checksumByteStored b s) hs, ?_⟩
    exact ((hreceive.trans (if_pos hlast)).trans (completeFrame_of_matches (s := checksumByteStored b s) hgood)).trans
      (andThen_eq_ite _ toSentinel)

/-! ### The comparison is VALIDATE's (R237) -/

theorem slice_eq_map (m : Memory) (lo n : Nat) : m.slice lo n = (List.range' lo n).map m.read := by
  induction n generalizing lo with
  | zero => rfl
  | succ n ih => rw [Memory.slice, ih, List.range'_succ, List.map_cons]

theorem length_slice (m : Memory) (lo n : Nat) : (m.slice lo n).length = n := by
  rw [slice_eq_map, List.length_map, List.length_range']

theorem byteAt_slice (m : Memory) {n i : Nat} (hi : i < n) : byteAt (m.slice 0 n) i = m.read i := by
  simp [byteAt, slice_eq_map, hi]

theorem take_slice (m : Memory) (lo : Nat) {k n : Nat} (hk : k ≤ n) : (m.slice lo n).take k = m.slice lo k := by
  induction k generalizing lo n with
  | zero => rfl
  | succ k ih =>
    obtain ⟨n, rfl⟩ := Nat.exists_eq_add_of_le' hk
    exact congrArg (m.read lo :: ·) (ih (lo + 1) (Nat.le_add_left k n))

/-- VALIDATE of the buffer with a header that the receiver has checked is the comparison alone. -/
theorem validateBytes_slice_iff {m : Memory} {len : Byte} (hmin : 1 ≤ len.toNat) (hmax : len.toNat ≤ 27)
    (hhead : HeaderOf m 3 len) :
    validateBytes (m.slice 0 bufferSize) (totalLength len) = .ok .ok ↔ ChecksumMatches m (totalLength len) := by
  obtain ⟨h0, h1, h2⟩ := hhead
  have htotal : totalLength len = len.toNat + 5 := rfl
  have hbyte {i : Nat} (hi : i < 32) : byteAt (m.slice 0 bufferSize) i = m.read i := byteAt_slice m hi
  rcases validateBytes_cases (m.slice 0 bufferSize) (totalLength len) with ⟨hrange, -⟩ | ⟨-, hshort, -⟩ | ⟨-, -, e⟩
  · omega
  · rw [length_slice, bufferSize] at hshort
    omega
  · rw [e, Except.ok.injEq, frameVerdict_eq_ok_iff, hbyte (by omega), hbyte (by omega), hbyte (by omega), hbyte (by omega),
      hbyte (by omega), take_slice m 0 (by unfold bufferSize; omega), ChecksumMatches]
    refine ⟨fun ⟨_, _, _, hsum⟩ => hsum, fun hsum => ⟨?_, h0 (by omega), h1 (by omega), hsum⟩⟩
    rw [h2 (Nat.le_refl 3)]
    omega

/-- Settles O46: the header VALIDATE looks at is the one stored, which the last byte's own store leaves alone. -/
theorem completionCheckIsValidate : Obligations.CompletionCheckIsValidate := by
  intro b s hinv hs hst hpos
  obtain ⟨hbuf, hshape, hhead⟩ := inv_receiver hinv hs
  obtain ⟨-, hmin, hmax⟩ := (receiverShape_checksumBytes hst).mp hshape
  exact validateBytes_slice_iff hmin hmax (hhead.write hbuf (by omega) (by omega) b 3)

/-! ### Back to Sentinel (R245) -/

/-- A bound on the bytes the receiver may still take before it is in Sentinel: of an unread Length, as for the longest frame. -/
def bytesLeft (s : State) : Nat :=
  match s.rxState with
  | .sentinel => 0
  | .typeByte => 31
  | .lengthByte => 30
  | .opCodeByte | .dataBytes | .checksumBytes => totalLength s.rxLen - s.pos

theorem bytesLeft_le {s : State} (hshape : receiverShape s = true) : bytesLeft s ≤ 31 := by
  cases hst : s.rxState with
  | sentinel | typeByte | lengthByte => simp [bytesLeft, hst]
  | opCodeByte | dataBytes | checksumBytes =>
    have hpos := pos_bounds_of_body hshape (by simp [hst])
    simp only [bytesLeft, hst, bufferSize] at hpos ⊢
    omega

theorem bytesLeft_pos {s : State} (hshape : receiverShape s = true) (hst : s.rxState ≠ .sentinel) : 0 < bytesLeft s := by
  cases hst' : s.rxState with
  | sentinel => exact absurd hst' hst
  | typeByte | lengthByte => simp [bytesLeft, hst']
  | opCodeByte | dataBytes | checksumBytes =>
    have hpos := pos_bounds_of_body hshape (by simp [hst'])
    simp only [bytesLeft, hst', bufferSize] at hpos ⊢
    omega

theorem completeFrame_sentinel_or_fault (s : State) :
    (completeFrame s).rxState = .sentinel ∨ (completeFrame s).fault ≠ none := by
  have close (u : State) : (u.andThen toSentinel).rxState = .sentinel ∨ (u.andThen toSentinel).fault ≠ none := by
    rcases andThen_cases u toSentinel with e | ⟨e, hf⟩ <;> rw [e]
    · exact .inl rfl
    · exact .inr hf
  rcases completeFrame_cases s with ⟨e, -⟩ | ⟨e, -⟩ <;> rw [e]
  · exact close _
  · exact close _

/-- Outside Sentinel every byte lowers the bound, unless the frame it completes raises a fault. -/
theorem bytesLeft_receive_lt (b : Byte) {s : State} (hs : s.fault = none) (hshape : receiverShape s = true)
    (hresync : s.params.resyncReexamine = false) (hst : s.rxState ≠ .sentinel) :
    bytesLeft (receive b s) < bytesLeft s ∨ (receive b s).fault ≠ none := by
  have hno : ¬(s.params.resyncReexamine = true ∧ b = sentinelByte) := by simp [hresync]
  cases hst' : s.rxState with
  | sentinel => exact absurd hst' hst
  | typeByte =>
    refine .inl ?_
    rw [receive_typeByte b hs hst', if_neg hno]
    split <;> simp [bytesLeft, hst']
  | lengthByte =>
    refine .inl ?_
    rw [receive_lengthByte b hs hst', if_neg hno]
    split
    next hb => simp only [bytesLeft, hst', totalLength]; omega
    next => simp [bytesLeft, hst']
  | opCodeByte =>
    have hrow := (receiverShape_opCodeByte hst').mp hshape
    refine .inl ?_
    rw [receive_opCodeByte b hs hst']
    split <;> simp only [bytesLeft, hst', totalLength] <;> omega
  | dataBytes =>
    have hrow := (receiverShape_dataBytes hst').mp hshape
    refine .inl ?_
    rw [receive_dataBytes b hs hst' (pos_lt_bufferSize hshape (.inr (.inl hst')))]
    split <;> simp only [bytesLeft, hst', totalLength] <;> omega
  | checksumBytes =>
    have hrow := (receiverShape_checksumBytes hst').mp hshape
    rw [receive_checksumBytes b hs hst' (pos_lt_bufferSize hshape (.inr (.inr hst')))]
    split
    next =>
      rcases completeFrame_sentinel_or_fault (checksumByteStored b s) with hback | hfault
      · exact .inl (by simpa only [bytesLeft, hback] using bytesLeft_pos hshape hst)
      · exact .inr hfault
    next =>
      refine .inl ?_
      simp only [checksumByteStored, bytesLeft, hst', totalLength]
      omega

/-- R245 by induction on the bytes: as many as the bound suffice. -/
theorem exists_sentinel_within_bytesLeft (bytes : List Byte) {s : State} (hs : s.fault = none) (hinv : ReceiverInv s)
    (hresync : s.params.resyncReexamine = false) (hlen : bytesLeft s ≤ bytes.length) :
    ∃ (k : Nat) (t : State), k ≤ bytesLeft s ∧ runInstrs (rxs (bytes.take k)) s = .next t ∧
      (t.rxState = .sentinel ∨ t.fault ≠ none) := by
  induction bytes generalizing s with
  | nil =>
    by_cases hst : s.rxState = .sentinel
    · exact ⟨0, s, Nat.zero_le _, rfl, .inl hst⟩
    · exact absurd hlen (Nat.not_le.mpr (bytesLeft_pos (hinv.2 hs).1 hst))
  | cons b rest ih =>
    by_cases hst : s.rxState = .sentinel
    · exact ⟨0, s, Nat.zero_le _, rfl, .inl hst⟩
    have hshape : receiverShape s = true := (hinv.2 hs).1
    have hpositive := bytesLeft_pos hshape hst
    have hfirst (l : List Byte) : runInstrs (rxs (b :: l)) s = runInstrs (rxs l) (receive b s) :=
      runInstrs_cons_of_next (exec_rxByte b hs) (rxs l)
    by_cases hfault : (receive b s).fault = none
    · have hless : bytesLeft (receive b s) < bytesLeft s :=
        (bytesLeft_receive_lt b hs hshape hresync hst).resolve_right (not_not_intro hfault)
      have hparams : (receive b s).params = s.params := (rxRule_serialFrame s.rxState b s).params
      obtain ⟨k, t, hk, hrun, hend⟩ :=
        ih hfault (receive_inv b hs hinv) (by rw [hparams, hresync]) (by rw [List.length_cons] at hlen; omega)
      exact ⟨k + 1, t, by omega, (hfirst _).trans hrun, hend⟩
    · exact ⟨1, receive b s, hpositive, hfirst [], .inr hfault⟩

/-- Settles O53: no state of the invariant is further than 31 bytes from Sentinel. -/
theorem receiverResyncsWithinThirtyOneBytes : Obligations.ReceiverResyncsWithinThirtyOneBytes := by
  intro s bytes hinv hs hresync hbytes
  obtain ⟨-, -, hrx⟩ := (inv_iff s).mp hinv
  obtain ⟨-, hshape, -⟩ := inv_receiver hinv hs
  have hbound := bytesLeft_le hshape
  obtain ⟨k, t, hk, hrun, hend⟩ := exists_sentinel_within_bytesLeft bytes hs hrx hresync (Nat.le_trans hbound hbytes)
  exact ⟨k, t, Nat.le_trans hk hbound, hrun, hend⟩

end Sys2Proof.Machine
end


section
/-! SUPPORT. The handler: what DISPATCH hands to it (45_receiver.md R238), its run call by call and what the run leaves alone (R239),
the send call (R241) and the registration (R242). -/

namespace Sys2Proof.Machine

/-! ### Registration and sending -/

theorem exec_registerHandler (h : Handler) {s : State} (hs : s.fault = none) :
    exec (.registerHandler h) s = .next (registerHandler h s) := perform_next _ hs

/-- Settles O56: the registration is performed, and writes one field. -/
theorem registerHandlerReplaces : Obligations.RegisterHandlerReplaces := fun h _ hs => exec_registerHandler h hs

theorem exec_sendResponse (opcode status : Byte) (payload : List Byte) (n : Nat) {s : State} (hs : s.fault = none) :
    exec (.sendResponse opcode status payload n) s = .next (sendResponse opcode status payload n s) := perform_next _ hs

/-- Settles O55: the send call within the limit and outside it. -/
theorem sendResponseAppendsTheFrame : Obligations.SendResponseAppendsTheFrame := by
  intro opcode status payload n s hs
  rw [exec_sendResponse _ _ _ _ hs]
  rcases sendResponse_cases opcode status payload n s with ⟨hn, hmax, e⟩ | ⟨hout, e⟩
  · rw [e, if_pos ⟨hn, hmax⟩, responseFrame, responseLength_eq]
    rfl
  · rw [e, if_neg (by omega), raise_of_none _ hs]

/-! ### DISPATCH -/

theorem dispatch_of_request {s : State} {h : Handler} (hh : s.handler = some h) (htype : s.buf.read 1 = typeRequest)
    (hlen : s.rxLen.toNat ≤ 29) :
    dispatch s = runHandler h
      { op := s.buf.read 3, len := s.rxLen, payload := s.buf.slice 4 (s.rxLen.toNat - 1), run := s.handlerRuns, replies := [] }
      { s with
        trace := s.trace ++ [.dispatch (s.buf.read 3) s.rxLen (s.buf.slice 4 (s.rxLen.toNat - 1))]
        handlerRuns := s.handlerRuns + 1 } := by
  rcases dispatch_cases s with ⟨-, -, -, e⟩ | ⟨-, -, hlong, -⟩ | ⟨hno, -⟩
  · exact e.trans (handRequest_of_some hh _ _ _)
  · rw [dataCount, bufferSize] at hlong
    omega
  · exact absurd ⟨htype, Option.isSome_of_eq_some hh⟩ hno

/-- A response, or a request that finds no handler, is not acted on. -/
theorem dispatch_of_not_request {s : State} (hno : s.buf.read 1 ≠ typeRequest ∨ s.handler = none) : dispatch s = s := by
  have hskip : ¬(s.buf.read 1 = typeRequest ∧ s.handler.isSome = true) := by
    rintro ⟨htype, hsome⟩
    rcases hno with hne | hnone
    · exact hne htype
    · rw [hnone] at hsome
      cases hsome
  rcases dispatch_cases s with ⟨htype, hsome, -⟩ | ⟨htype, hsome, -⟩ | ⟨-, e⟩
  · exact absurd ⟨htype, hsome⟩ hskip
  · exact absurd ⟨htype, hsome⟩ hskip
  · exact e

theorem dispatch_of_long {s : State} {h : Handler} (hs : s.fault = none) (hh : s.handler = some h)
    (htype : s.buf.read 1 = typeRequest) (hlen : 29 < s.rxLen.toNat) :
    dispatch s = { s with fault := some (.bufferRange (s.rxLen.toNat + 2)) } := by
  rcases dispatch_cases s with ⟨-, -, hfits, -⟩ | ⟨-, -, -, e⟩ | ⟨hno, -⟩
  · rw [dataCount, bufferSize] at hfits
    omega
  · have hoffset : 3 + dataCount s.rxLen = s.rxLen.toNat + 2 := by
      rw [dataCount]
      omega
    rw [e, hoffset, raise_of_none _ hs]
  · exact absurd ⟨htype, Option.isSome_of_eq_some hh⟩ hno

/-- Settles O47: the hand-over, the payload past the buffer, and nothing to do. -/
theorem dispatchHandsRequestsToTheHandler : Obligations.DispatchHandsRequestsToTheHandler := by
  refine ⟨fun h s hs hh htype hlen => ?handed, fun h s hs hh htype hlen => ?long, fun s hs hno => ?nothing⟩
  case handed => rw [exec_dispatch hs, dispatch_of_request hh htype hlen]
  case long => rw [exec_dispatch hs, dispatch_of_long hs hh htype hlen]
  case nothing => rw [exec_dispatch hs, dispatch_of_not_request hno]

/-! ### What a handler's run writes -/

/-- All that differs between two states is what a handler may write (R239). -/
def HandlerWrites (s t : State) : Prop :=
  t = { s with portOut := t.portOut, tx := t.tx, handler := t.handler, fault := t.fault }

theorem HandlerWrites.trans {s t u : State} (h : HandlerWrites s t) (k : HandlerWrites t u) : HandlerWrites s u := by
  unfold HandlerWrites at *
  rw [k, h]

theorem raise_handlerWrites (r : Fault) (s : State) : HandlerWrites s (s.raise r) := by
  unfold State.raise
  split <;> rfl

theorem callEffect_handlerWrites (x : HandlerView) (k : HandlerCall) (s : State) : HandlerWrites s (callEffect x k s) := by
  rcases callEffect_cases x k s with ⟨b, e⟩ | ⟨f, e⟩ | ⟨r, e⟩ | e <;> rw [e]
  · rfl
  · rfl
  · exact raise_handlerWrites r s
  · rfl

theorem runHandler_handlerWrites (h : Handler) (x : HandlerView) (s : State) : HandlerWrites s (runHandler h x s) := by
  induction h generalizing x s with
  | done => rfl
  | call c k rest ih =>
    unfold runHandler
    split
    next =>
      rcases andThen_cases (callEffect x k s) (runHandler rest _) with e | ⟨e, -⟩ <;> rw [e]
      · exact (callEffect_handlerWrites x k s).trans (ih _ _)
      · exact callEffect_handlerWrites x k s
    next => exact ih x s
  | register c h rest _ ih =>
    unfold runHandler
    split
    next =>
      have hregister : HandlerWrites s (registerHandler h s) := rfl
      exact hregister.trans (ih _ _)
    next => exact ih x s

/-- Settles O48: the fields by the run's writes, the sent bytes by its frame. -/
theorem handlerRunTouchesOnlyItsFields : Obligations.HandlerRunTouchesOnlyItsFields :=
  fun h x s => ⟨runHandler_handlerWrites h x s, (runHandler_handlerFrame h x s).tx⟩

/-! ### The run, call by call -/

theorem runHandler_call {c : CondExpr} {x : HandlerView} (hc : evalCond x c = true) (k : HandlerCall) (rest : Handler)
    (s : State) :
    runHandler (.call c k rest) x s =
      if (callEffect x k s).fault = none then
        runHandler rest { x with replies := x.replies ++ [callReply x k s] } (callEffect x k s)
      else callEffect x k s := by
  rw [runHandler, if_pos hc, andThen_eq_ite]

theorem runHandler_register {c : CondExpr} {x : HandlerView} (hc : evalCond x c = true) (h rest : Handler) (s : State) :
    runHandler (.register c h rest) x s =
      runHandler rest { x with replies := x.replies ++ [.none] } (registerHandler h s) := by
  rw [runHandler, if_pos hc]

theorem runHandler_skip {c : CondExpr} {x : HandlerView} (hc : evalCond x c = false) (k : HandlerCall) (h rest : Handler)
    (s : State) :
    runHandler (.call c k rest) x s = runHandler rest x s ∧ runHandler (.register c h rest) x s = runHandler rest x s := by
  have hnot : ¬evalCond x c = true := by simp [hc]
  exact ⟨by rw [runHandler, if_neg hnot], by rw [runHandler, if_neg hnot]⟩

/-- TICK or RX_BYTE from a handler ends its run with Reentrant (60_exceptions.md R275, D21). -/
theorem runHandler_reentrant {c : CondExpr} {x : HandlerView} (hc : evalCond x c = true) {k : HandlerCall} {e : BytesExpr}
    (hk : k = .tick ∨ k = .rxByte e) (rest : Handler) {s : State} (hs : s.fault = none) :
    runHandler (.call c k rest) x s = { s with fault := some .reentrant } := by
  have heffect : callEffect x k s = { s with fault := some .reentrant } := by
    rcases hk with rfl | rfl <;> exact raise_of_none .reentrant hs
  rw [runHandler_call hc, heffect, if_neg nofun]

/-- A handler's call is this operation on this state: `ret` is left to the Loop's caller, and what the operation returns goes to
the handler. -/
def CallIs (x : HandlerView) (k : HandlerCall) (i : Instr) (s : State) : Prop :=
  ∃ t, exec i { s with ret := .none } = .next t ∧ callEffect x k s = { t with ret := s.ret } ∧ callReply x k s = .ofResult t.ret

section Calls

variable {s : State} (hs : s.fault = none)
include hs

/-- A call that raises does so as the operation does, and neither returns a value. -/
theorem raise_as_call (r : Fault) :
    s.raise r = { ({ s with ret := .none } : State).raise r with ret := s.ret } ∧
      Reply.none = .ofResult (({ s with ret := .none } : State).raise r).ret :=
  ⟨by rw [raise_of_none r hs, raise_of_none (s := { s with ret := .none }) r hs], by rw [raise_ret]; rfl⟩

theorem answerFrame_as_call (e : Except Fault (List Byte)) :
    s.raiseOf e = { ({ s with ret := .none } : State).answerFrame e with ret := s.ret } ∧
      encodeReply e = .ofResult (({ s with ret := .none } : State).answerFrame e).ret := by
  cases e with
  | ok f => exact ⟨rfl, rfl⟩
  | error r => exact raise_as_call hs r

theorem answerVerdict_as_call (e : Except Fault Verdict) :
    s.raiseOf e = { ({ s with ret := .none } : State).answerVerdict e with ret := s.ret } ∧
      verdictReply e = .ofResult (({ s with ret := .none } : State).answerVerdict e).ret := by
  cases e with
  | ok v => exact ⟨rfl, rfl⟩
  | error r => exact raise_as_call hs r

theorem sendResponse_as_call (opcode status : Byte) (payload : List Byte) (n : Nat) :
    sendResponse opcode status payload n s =
        { sendResponse opcode status payload n { s with ret := .none } with ret := s.ret } ∧
      Reply.none = .ofResult (sendResponse opcode status payload n { s with ret := .none }).ret := by
  unfold sendResponse
  cases encodeResponseBytes opcode status payload n with
  | ok f => exact ⟨rfl, rfl⟩
  | error r => exact raise_as_call hs r

theorem callIs_of_callOperation {x : HandlerView} {k : HandlerCall} {i : Instr} (hi : callOperation x k = some i) :
    CallIs x k i s := by
  have hs' : ({ s with ret := .none } : State).fault = none := hs
  cases k with
  | motion _ | tick | rxByte _ => cases hi
  | setOutput b => cases hi; exact ⟨_, exec_setOutput _ hs', rfl, rfl⟩
  | getInput => cases hi; exact ⟨_, exec_getInput hs', rfl, congrArg Reply.byte (portInputByte_eq_append _ _)⟩
  | readMotorState => cases hi; exact ⟨_, perform_next (fun u : State => u.answer (.byte u.motorState)) hs', rfl, rfl⟩
  | checksum region => cases hi; exact ⟨_, exec_checksum _ hs', rfl, rfl⟩
  | decode frame => cases hi; exact ⟨_, exec_decodeFrame _ hs', rfl, rfl⟩
  | sendResponse opcode status data n => cases hi; exact ⟨_, exec_sendResponse _ _ _ _ hs', sendResponse_as_call hs _ _ _ _⟩
  | encodeRequest opcode data n => cases hi; exact ⟨_, exec_encodeRequest _ _ _ hs', answerFrame_as_call hs _⟩
  | encodeResponse opcode status data n => cases hi; exact ⟨_, exec_encodeResponse _ _ _ _ hs', answerFrame_as_call hs _⟩
  | validate buf total => cases hi; exact ⟨_, exec_validate _ _ hs', answerVerdict_as_call hs _⟩

end Calls

/-- Settles O49: the run by its recursion, each call by its operation, and the two calls a handler may not make. -/
theorem handlerRunFollowsItsCalls : Obligations.HandlerRunFollowsItsCalls := by
  refine ⟨fun _ _ => rfl, fun c k rest x s hc => runHandler_call hc k rest s, fun c h rest x s hs hc => ?register,
    fun c k h rest x s hc => runHandler_skip hc k h rest s, fun x k i s hs hi => callIs_of_callOperation hs hi, fun _ => rfl,
    fun _ _ _ => ⟨rfl, rfl⟩, fun c e k rest x s hs hc hk => runHandler_reentrant hc hk rest hs,
    fun rest e k payload s hs hmax hk hh => ?ping⟩
  case register => exact ⟨_, exec_registerHandler h hs, runHandler_register hc h rest s⟩
  case ping =>
    have hrow : ((.appPing, 0x01) : (List Byte → Instr) × Byte) ∈ namedRequests := List.mem_cons_self
    obtain ⟨hping, -⟩ := namedRequestsReachTheHandler _ hrow payload s hs hmax
    rw [hping _ hh]
    exact congrArg Host.Outcome.next (runHandler_reentrant rfl hk rest hs)

end Sys2Proof.Machine
end


section
/-! SUPPORT. Frames received byte by byte from Sentinel (45_receiver.md R231 to R238): where the bytes lie, and the state in which the
frame is completed. -/

namespace Sys2Proof.Machine

/-! ### Bytes stored one after the other -/

/-- The buffer with these bytes written from offset `i` on. -/
def Memory.writeAll (m : Memory) (i : Nat) : List Byte → Memory
  | [] => m
  | b :: rest => Memory.writeAll (m.write i b) (i + 1) rest

theorem writeAll_cons (m : Memory) (i : Nat) (b : Byte) (rest : List Byte) :
    m.writeAll i (b :: rest) = (m.write i b).writeAll (i + 1) rest := rfl

theorem writeAll_append (m : Memory) (i : Nat) (l l' : List Byte) :
    m.writeAll i (l ++ l') = (m.writeAll i l).writeAll (i + l.length) l' := by
  induction l generalizing m i with
  | nil => rfl
  | cons b rest ih => rw [List.cons_append, writeAll_cons, writeAll_cons, ih, List.length_cons, Nat.add_assoc, Nat.add_comm 1]

/-- Inside the bytes stored the buffer holds them, elsewhere what it held. -/
theorem read_writeAll {m : Memory} (hm : m.wf = true) (i : Nat) (l : List Byte) (hl : i + l.length ≤ bufferSize) (k : Nat) :
    (m.writeAll i l).read k = if i ≤ k ∧ k < i + l.length then l.getD (k - i) 0 else m.read k := by
  induction l generalizing m i with
  | nil => rw [if_neg (by simp)]; rfl
  | cons b rest ih =>
    rw [List.length_cons] at hl ⊢
    rw [writeAll_cons, ih (write_wf b (by omega) hm) (i + 1) (by omega), read_write hm]
    by_cases hk : k = i
    · subst hk
      rw [if_neg (by omega), if_pos rfl, if_pos (by omega), Nat.sub_self, List.getD_cons_zero]
    · rw [if_neg hk]
      by_cases hin : i + 1 ≤ k ∧ k < i + 1 + rest.length
      · have hsub : k - i = k - (i + 1) + 1 := by omega
        rw [if_pos hin, if_pos (by omega), hsub, List.getD_cons_succ]
      · rw [if_neg hin, if_neg (by omega)]

theorem read_writeAll_zero {m : Memory} (hm : m.wf = true) {f : List Byte} (hf : f.length ≤ bufferSize) (k : Nat) :
    (m.writeAll 0 f).read k = if k < f.length then f.getD k 0 else m.read k := by
  have h := read_writeAll hm 0 f (by omega) k
  simpa using h

/-- A cut of the buffer inside a frame stored from offset 0 on is that cut of the frame. -/
theorem slice_writeAll {m : Memory} (hm : m.wf = true) {f : List Byte} (hf : f.length ≤ bufferSize) {lo n : Nat}
    (hn : lo + n ≤ f.length) : (m.writeAll 0 f).slice lo n = (f.drop lo).take n := by
  refine List.ext_getElem ?_ fun j hj hj' => ?_
  · rw [length_slice, List.length_take, List.length_drop]
    omega
  · rw [length_slice] at hj
    have hin : lo + j < f.length := by omega
    simp [slice_eq_map, read_writeAll_zero hm hf, hin]

/-! ### Receiving several bytes -/

theorem receiveAll_cons_of_eq {b : Byte} {s t : State} (h : receive b s = t) (ht : t.fault = none) (rest : List Byte) :
    receiveAll (b :: rest) s = receiveAll rest t := by
  rw [receiveAll, h, andThen_of_none _ ht]

theorem receive_fault_of_receiveAll {b : Byte} {rest : List Byte} {s : State} (h : (receiveAll (b :: rest) s).fault = none) :
    (receive b s).fault = none := by
  rw [receiveAll, andThen_eq_ite] at h
  by_cases hb : (receive b s).fault = none
  · exact hb
  · rwa [if_neg hb] at h

theorem receiveAll_append_of_eq {l : List Byte} {s t : State} (h : receiveAll l s = t) (ht : t.fault = none) (l' : List Byte) :
    receiveAll (l ++ l') s = receiveAll l' t := by
  subst h
  induction l generalizing s with
  | nil => rfl
  | cons b rest ih =>
    have hb := receive_fault_of_receiveAll ht
    rw [receiveAll_cons_of_eq rfl hb] at ht
    rw [List.cons_append, receiveAll_cons_of_eq rfl hb, ih ht, receiveAll_cons_of_eq rfl hb]

/-- As RX_BYTE instructions, bytes that raise no fault lead to the same state. -/
theorem runInstrs_rxs_append {l : List Byte} {s : State} (hs : s.fault = none) (hl : (receiveAll l s).fault = none)
    (l' : List Byte) : runInstrs (rxs (l ++ l')) s = runInstrs (rxs l') (receiveAll l s) := by
  induction l generalizing s with
  | nil => rfl
  | cons b rest ih =>
    have hb := receive_fault_of_receiveAll hl
    rw [receiveAll_cons_of_eq rfl hb] at hl ⊢
    exact (runInstrs_cons_of_next (exec_rxByte b hs) _).trans (ih hb hl)

/-- The fault of the last byte does not matter: no operation comes after it. -/
theorem runInstrs_rxs_concat {l : List Byte} {b : Byte} {s : State} (hs : s.fault = none) (hl : (receiveAll l s).fault = none) :
    runInstrs (rxs (l ++ [b])) s = .next (receiveAll (l ++ [b]) s) := by
  rw [runInstrs_rxs_append hs hl, receiveAll_append_of_eq rfl hl, receiveAll_singleton]
  exact runInstrs_cons_of_next (exec_rxByte b hl) []

/-! ### The bytes of a frame -/

/-- `s` with a sentinel and a type byte stored (R231, R232). -/
def State.awaitingLength (s : State) (type : Byte) : State :=
  { s with buf := s.buf.writeAll 0 [sentinelByte, type], pos := 2, rxState := .lengthByte, rxCause := none }

/-- The receiver state in which a byte past the header is awaited, by its position (R234 to R236). -/
def bodyState (len : Byte) (p : Nat) : RxState :=
  if p < 4 then .opCodeByte else if p < len.toNat + 3 then .dataBytes else .checksumBytes

/-- `s` while it receives a frame of this Length: `p` bytes are stored, in `m`. -/
def State.collecting (s : State) (len : Byte) (m : Memory) (p : Nat) : State :=
  { s with buf := m, pos := p, rxState := bodyState len p, rxLen := len, rxCause := none }

theorem bodyState_data {len : Byte} {p : Nat} (hlo : 4 ≤ p) (hhi : p < len.toNat + 3) : bodyState len p = .dataBytes := by
  rw [bodyState, if_neg (by omega), if_pos hhi]

theorem bodyState_checksum {len : Byte} {p : Nat} (hmin : 1 ≤ len.toNat) (hlo : len.toNat + 3 ≤ p) :
    bodyState len p = .checksumBytes := by
  rw [bodyState, if_neg (by omega), if_neg (by omega)]

/-- R234's choice after the opcode. -/
theorem bodyState_four {len : Byte} (hmin : 1 ≤ len.toNat) :
    bodyState len 4 = if 1 < len.toNat then .dataBytes else .checksumBytes := by
  split
  next => exact bodyState_data (Nat.le_refl 4) (by omega)
  next => exact bodyState_checksum hmin (by omega)

/-- R235's choice after a data byte. -/
theorem bodyState_succ_of_data {len : Byte} {p : Nat} (hlo : 4 ≤ p) (hhi : p < len.toNat + 3) :
    bodyState len (p + 1) = if p + 1 = len.toNat + 3 then .checksumBytes else .dataBytes := by
  split
  next => exact bodyState_checksum (by omega) (by omega)
  next => exact bodyState_data (by omega) (by omega)

theorem collecting_of_bodyState {len : Byte} {p : Nat} {st : RxState} (h : bodyState len p = st) (s : State) (m : Memory) :
    s.collecting len m p = { s with buf := m, pos := p, rxState := st, rxLen := len, rxCause := none } := by
  rw [State.collecting, h]

section Frame

variable {s : State} {type len : Byte} (hs : s.fault = none) (hmin : 1 ≤ len.toNat) (hmax : len.toNat ≤ 27)
include hs

theorem receiveAll_type (hst : s.rxState = .sentinel) (htype : type = typeRequest ∨ type = typeResponse) :
    receiveAll [sentinelByte, type] s = s.awaitingLength type := by
  let u : State := { s with buf := s.buf.write 0 sentinelByte, pos := 1, rxState := .typeByte, rxCause := none }
  have hfirst : receive sentinelByte s = u := (receive_sentinel sentinelByte hs hst).trans (if_pos rfl)
  rw [receiveAll_cons_of_eq hfirst hs, receiveAll_singleton]
  exact (receive_typeByte (s := u) type hs rfl).trans (if_pos htype)

theorem receiveAll_type_length (hst : s.rxState = .sentinel) (htype : type = typeRequest ∨ type = typeResponse) :
    receiveAll [sentinelByte, type, len] s = receive len (s.awaitingLength type) :=
  (receiveAll_append_of_eq (receiveAll_type hs hst htype) hs [len]).trans (receiveAll_singleton len _)

include hmin hmax

theorem receiveAll_header (hst : s.rxState = .sentinel) (htype : type = typeRequest ∨ type = typeResponse) :
    receiveAll [sentinelByte, type, len] s = s.collecting len (s.buf.writeAll 0 [sentinelByte, type, len]) 3 := by
  rw [receiveAll_type_length hs hst htype]
  exact (receive_lengthByte (s := s.awaitingLength type) len hs rfl).trans (if_pos ⟨hmin, hmax⟩)

/-- Past the header every byte but the last is stored and counted. -/
theorem receive_collecting (b : Byte) (m : Memory) {p : Nat} (hlo : 3 ≤ p) (hhi : p < len.toNat + 4) :
    receive b (s.collecting len m p) = s.collecting len (m.write p b) (p + 1) := by
  have hs' : (s.collecting len m p).fault = none := hs
  have hpos : (s.collecting len m p).pos < bufferSize := Nat.lt_trans hhi (Nat.lt_succ_of_le (Nat.add_le_add_right hmax 4))
  rcases (by omega : p = 3 ∨ (4 ≤ p ∧ p < len.toNat + 3) ∨ p = len.toNat + 3) with rfl | ⟨hfour, hdata⟩ | rfl
  · rw [receive_opCodeByte b hs' rfl, collecting_of_bodyState (bodyState_four hmin)]
    rfl
  · rw [receive_dataBytes b hs' (bodyState_data hfour hdata) hpos,
      collecting_of_bodyState (bodyState_succ_of_data hfour hdata)]
    rfl
  · have hmore : ¬len.toNat + 3 + 1 = len.toNat + 5 := by omega
    have hstay := bodyState_checksum (p := len.toNat + 3) hmin (Nat.le_refl _)
    have hnext := bodyState_checksum (p := len.toNat + 3 + 1) hmin (Nat.le_succ _)
    rw [receive_checksumBytes b hs' hstay hpos, collecting_of_bodyState hnext, collecting_of_bodyState hstay]
    exact if_neg hmore

theorem receiveAll_collecting (l : List Byte) (m : Memory) {p : Nat} (hlo : 3 ≤ p) (hhi : p + l.length ≤ len.toNat + 4) :
    receiveAll l (s.collecting len m p) = s.collecting len (m.writeAll p l) (p + l.length) := by
  induction l generalizing m p with
  | nil => rfl
  | cons b rest ih =>
    rw [List.length_cons] at hhi ⊢
    rw [receiveAll_cons_of_eq (receive_collecting hs hmin hmax b m hlo (by omega)) hs, ih _ (by omega) (by omega),
      writeAll_cons, Nat.add_assoc, Nat.add_comm 1]

/-- The last byte is stored too, and completes the frame. -/
theorem receive_collecting_last (b : Byte) (m : Memory) :
    receive b (s.collecting len m (len.toNat + 4)) =
      completeFrame (s.collecting len (m.write (len.toNat + 4) b) (totalLength len)) := by
  have hs' : (s.collecting len m (len.toNat + 4)).fault = none := hs
  have hstay := bodyState_checksum (p := len.toNat + 4) hmin (Nat.le_succ _)
  have hnext := bodyState_checksum (p := totalLength len) hmin (Nat.le_add_right _ 2)
  have hpos : (s.collecting len m (len.toNat + 4)).pos < bufferSize := Nat.lt_succ_of_le (Nat.add_le_add_right hmax 4)
  rw [receive_checksumBytes b hs' hstay hpos, collecting_of_bodyState hnext, collecting_of_bodyState hstay]
  exact if_pos rfl

/-- A whole frame from Sentinel: its bytes lie in the buffer from offset 0 on, and it is completed. -/
theorem receive_frame {body f : List Byte} (hst : s.rxState = .sentinel) (htype : type = typeRequest ∨ type = typeResponse)
    (hbody : body.length = len.toNat + 2) (hf : f = sentinelByte :: type :: len :: body) :
    receiveAll f s = completeFrame (s.collecting len (s.buf.writeAll 0 f) (totalLength len)) ∧
      runInstrs (rxs f) s = .next (receiveAll f s) := by
  obtain ⟨init, b, rfl⟩ : ∃ init b, body = init ++ [b] :=
    have hne : body ≠ [] := List.ne_nil_of_length_pos (by omega)
    ⟨body.dropLast, body.getLast hne, (List.dropLast_concat_getLast hne).symm⟩
  have hinit : init.length = len.toNat + 1 := by simpa using hbody
  let most := [sentinelByte, type, len] ++ init
  have hoffset : 0 + most.length = len.toNat + 4 := by
    rw [List.length_append, hinit, Nat.zero_add]
    exact Nat.add_comm 3 _
  have hmost : receiveAll most s = s.collecting len (s.buf.writeAll 0 most) (len.toNat + 4) := by
    rw [receiveAll_append_of_eq (receiveAll_header hs hmin hmax hst htype) hs,
      receiveAll_collecting hs hmin hmax init _ (Nat.le_refl 3) (by omega), writeAll_append s.buf 0 _ init, hinit]
    exact congrArg (s.collecting len _) (by omega)
  have hlast : (s.buf.writeAll 0 most).write (len.toNat + 4) b = s.buf.writeAll 0 (most ++ [b]) := by
    rw [writeAll_append s.buf 0 most [b], hoffset]
    rfl
  obtain rfl : f = most ++ [b] := hf
  refine ⟨?_, runInstrs_rxs_concat hs (by rw [hmost]; exact hs)⟩
  rw [receiveAll_append_of_eq hmost hs, receiveAll_singleton, receive_collecting_last hs hmin hmax, hlast]

end Frame

/-! ### The completion of a frame received from Sentinel -/

/-- The receiver's comparison is CHECKSUM of the frame itself. -/
theorem checksumMatches_writeAll_iff {m : Memory} (hm : m.wf = true) {f : List Byte} (hmin : 2 ≤ f.length)
    (hf : f.length ≤ bufferSize) :
    ChecksumMatches (m.writeAll 0 f) f.length ↔
      checksum (f.take (f.length - 2)) = (byteAt f (f.length - 2), byteAt f (f.length - 1)) := by
  have hread {k : Nat} (hk : k < f.length) : (m.writeAll 0 f).read k = byteAt f k := by
    rw [read_writeAll_zero hm hf, if_pos hk, byteAt]
  rw [ChecksumMatches, slice_writeAll hm hf (by omega), List.drop_zero, hread (by omega), hread (by omega)]

theorem exec_frameRequest (len : Byte) (body : List Byte) {s : State} (hs : s.fault = none) :
    exec (.frameRequest len body) s = .next (receiveAll (sentinelByte :: typeRequest :: len :: body) s) := perform_next _ hs

theorem exec_frameRow {type : Byte} (htype : type = typeRequest ∨ type = typeResponse) (len : Byte) (body : List Byte)
    {s : State} (hs : s.fault = none) :
    exec (if type = 0x01 then .frameRequest len body else .frameResponse len body) s =
      .next (receiveAll (sentinelByte :: type :: len :: body) s) := by
  rcases htype with rfl | rfl
  · exact exec_frameRequest len body hs
  · exact perform_next _ hs

/-- A frame that is not handed over ends in Sentinel with no trace but its cause code (R236, R238). -/
theorem completeFrame_of_not_delivered {u : State} (hu : u.fault = none)
    (hno : u.buf.read 1 ≠ typeRequest ∨ u.handler = none ∨ ¬ChecksumMatches u.buf (totalLength u.rxLen)) :
    ∃ cause, (ChecksumMatches u.buf (totalLength u.rxLen) → cause = u.rxCause) ∧
      (¬ChecksumMatches u.buf (totalLength u.rxLen) → cause = some .badChecksum) ∧
      completeFrame u = { u with pos := 0, rxState := .sentinel, rxCause := cause } := by
  by_cases hgood : ChecksumMatches u.buf (totalLength u.rxLen)
  · have hskip : dispatch u = u := dispatch_of_not_request (hno.imp_right (Or.resolve_right · (not_not_intro hgood)))
    refine ⟨u.rxCause, fun _ => rfl, absurd hgood, ?_⟩
    rw [completeFrame_of_matches hgood, hskip, andThen_of_none _ hu, toSentinel]
  · exact ⟨some .badChecksum, (absurd · hgood), fun _ => rfl, completeFrame_of_not_matches hu hgood⟩

/-- Settles O52: a whole frame is completed but not handed over; an illegal Length is discarded at that byte. -/
theorem otherFramesAreSilent : Obligations.OtherFramesAreSilent := by
  refine ⟨fun type len body s hs hst hbuf htype hmin hmax hbody => ?whole,
    fun type len s hs hst hbuf htype hlen hno => ?illegal⟩
  case whole =>
    intro f good hsilent
    have hlength : f.length = len.toNat + 5 := congrArg (· + 3) hbody
    have hsize : f.length ≤ bufferSize := by
      unfold bufferSize
      omega
    let u := s.collecting len (s.buf.writeAll 0 f) (totalLength len)
    have hread : ∀ k, u.buf.read k = if k < f.length then f.getD k 0 else s.buf.read k := read_writeAll_zero hbuf hsize
    have hgood : ChecksumMatches u.buf (totalLength u.rxLen) ↔ good := by
      have h := checksumMatches_writeAll_iff hbuf (by omega) hsize
      rw [hlength] at h
      exact h
    have hno : u.buf.read 1 ≠ typeRequest ∨ u.handler = none ∨ ¬ChecksumMatches u.buf (totalLength u.rxLen) := by
      rcases hsilent with htwo | hbad | hnone
      · refine .inl ?_
        have h1 : u.buf.read 1 = type := (hread 1).trans (if_pos (by omega))
        rw [h1, htwo]
        decide
      · exact .inr (.inr (mt hgood.mp hbad))
      · exact .inr (.inl hnone)
    obtain ⟨cause, hcause, hcause', e⟩ := completeFrame_of_not_delivered (u := u) hs hno
    refine ⟨u.buf, cause, hread, hcause ∘ hgood.mpr, hcause' ∘ mt hgood.mp, ?_⟩
    rw [exec_frameRow htype len body hs]
    exact congrArg Host.Outcome.next (((receive_frame hs hmin hmax hst htype hbody rfl).1).trans e)
  case illegal =>
    refine ⟨s.buf.writeAll 0 [sentinelByte, type], fun k => ?read, ?next⟩
    case read =>
      have hsize : [sentinelByte, type].length ≤ bufferSize := Nat.le_add_left 2 30
      rw [read_writeAll_zero hbuf hsize]
      match k with
      | 0 => rfl
      | 1 => rfl
      | k + 2 => rfl
    case next =>
      rw [exec_frameRow htype len [] hs, receiveAll_type_length hs hst htype]
      exact congrArg Host.Outcome.next
        (((receive_lengthByte (s := s.awaitingLength type) len hs rfl).trans (if_neg (by omega))).trans (if_neg hno))

theorem length_requestFrame (opcode : Byte) (payload : List Byte) (n : Nat) :
    (requestFrame opcode payload n).length = payload.length + 6 := by
  simp only [requestFrame, length_withChecksum, List.length_append, List.length_cons, List.length_nil]
  omega

theorem requestFrame_eq_header_append (opcode : Byte) (payload : List Byte) (n : Nat) :
    requestFrame opcode payload n =
      sentinelByte :: typeRequest :: BitVec.ofNat 8 (n + 1) :: (requestFrame opcode payload n).drop 3 := by
  rw [← requestLength_eq]
  rfl

/-- What DISPATCH and the comparison before it find of a request frame in the buffer. -/
theorem requestFrame_stored {m : Memory} (hm : m.wf = true) (opcode : Byte) {payload : List Byte} (hmax : payload.length ≤ 26)
    {f : List Byte} (hf : f = requestFrame opcode payload payload.length) :
    (m.writeAll 0 f).read 1 = typeRequest ∧ (m.writeAll 0 f).read 3 = opcode ∧
      (m.writeAll 0 f).slice 4 payload.length = payload ∧ ChecksumMatches (m.writeAll 0 f) f.length := by
  have hlength : f.length = payload.length + 6 := hf ▸ length_requestFrame opcode payload _
  have hsize : f.length ≤ bufferSize := by
    rw [hlength]
    exact Nat.add_le_add_right hmax 6
  have hread {k : Nat} (hk : k < 6) : (m.writeAll 0 f).read k = f.getD k 0 :=
    (read_writeAll_zero hm hsize k).trans (if_pos (by omega))
  refine ⟨(hread (by omega)).trans (hf ▸ rfl), (hread (by omega)).trans (hf ▸ rfl), ?payload,
    (checksumMatches_writeAll_iff hm (by omega) hsize).mpr (checksum_take_withChecksum hf)⟩
  case payload =>
    rw [slice_writeAll hm hsize (by omega), hf]
    exact List.take_left

/-- Settles O51: the frame that is completed carries its own checksum, so DISPATCH hands it over. -/
theorem requestFrameIsDelivered : Obligations.RequestFrameIsDelivered := by
  intro opcode payload h s hmax hs hst hh hbuf f len
  have hlen : len.toNat = payload.length + 1 := by
    rw [BitVec.toNat_ofNat, Nat.mod_eq_of_lt (by omega)]
  have hbytes : f = sentinelByte :: typeRequest :: len :: f.drop 3 := requestFrame_eq_header_append opcode payload _
  have hlength : f.length = totalLength len := by
    rw [totalLength, hlen]
    exact length_requestFrame opcode payload _
  have hsize : f.length ≤ bufferSize := by
    rw [hlength, totalLength, bufferSize]
    omega
  let m := s.buf.writeAll 0 f
  let u : State := { s with buf := m, pos := f.length, rxState := .checksumBytes, rxLen := len, rxCause := none }
  have hcollected : s.collecting len m (totalLength len) = u := by
    have hstay : bodyState len (totalLength len) = .checksumBytes := bodyState_checksum (by omega) (Nat.le_add_right _ 2)
    rw [← hlength] at hstay ⊢
    exact collecting_of_bodyState hstay s m
  obtain ⟨htype, hop, hpayload, hgood⟩ := requestFrame_stored hbuf opcode hmax (f := f) rfl
  refine ⟨m, read_writeAll_zero hbuf hsize, ?_⟩
  intro d t
  have hdispatch : dispatch u = d := by
    have hshort : u.rxLen.toNat ≤ 29 := Nat.le_trans (Nat.le_of_eq hlen) (by omega)
    have hcount : u.rxLen.toNat - 1 = payload.length := Nat.sub_eq_of_eq_add hlen
    have hcopy : u.buf.slice 4 payload.length = payload := hpayload
    have hopcode : u.buf.read 3 = opcode := hop
    rw [dispatch_of_request (s := u) hh htype hshort, hcount, hcopy, hopcode]
  have hbody : (f.drop 3).length = len.toNat + 2 := by
    rw [List.length_drop, hlength, totalLength]
    omega
  obtain ⟨hframe, hrun⟩ := receive_frame hs (by omega) (by omega) hst (.inl rfl) hbody hbytes
  have hreceived : receiveAll f s = t := by
    rw [hlength] at hgood
    rw [hframe, hcollected, completeFrame_of_matches (s := u) hgood, hdispatch, andThen_eq_ite]
    rfl
  have hrow : exec (.frameRequest len (f.drop 3)) s = .next (receiveAll f s) := by
    rw [exec_frameRequest len _ hs, ← hbytes]
  rw [hrow, hrun, hreceived]
  exact ⟨rfl, rfl⟩

end Sys2Proof.Machine
end


section
/-! SUPPORT. The receive path and the rest apart: only the receive path moves the receiver (45_receiver.md R240), and a tick and a byte
received share no field (R243). -/

namespace Sys2Proof.Machine

theorem exec_receiverKept {i : Instr} {s t : State} (h : exec i s = .next t) (hrx : receives i = false) : ReceiverKept s t := by
  cases hbus : drivesBus i with
  | true =>
    rcases exec_drivesBus h hbus with f | ⟨address, -, rfl⟩
    · exact f.toReceiverKept
    · exact (raise_handlerFrame _ s).toReceiverKept
  | false => exact (exec_handlerFrame h hbus hrx).toReceiverKept

/-- Settles O11: off the receive path an operation is of the bus path, of the codec, or of the handler. -/
theorem onlyTheReceivePathMovesTheReceiver : Obligations.OnlyTheReceivePathMovesTheReceiver := by
  intro i s t h hrx
  have k := exec_receiverKept h hrx
  exact ⟨k.rxState, k.pos, k.rxLen, k.rxCause, fun _ => by rw [k.buf]⟩

/-! ### The receiver's fields -/

/-- `s` with the receiver of `r` (10_state.md R29 to R32). -/
def State.withReceiver (s r : State) : State :=
  { s with rxState := r.rxState, buf := r.buf, pos := r.pos, rxLen := r.rxLen, rxCause := r.rxCause }

/-! ### A tick does not read them -/

theorem serviceTaken_withReceiver (s r : State) : (s.withReceiver r).serviceTaken = s.serviceTaken.withReceiver r := by
  cases hdraws : s.answersService <;> simp [State.serviceTaken, State.withReceiver, hdraws]

theorem sampleTaken_withReceiver (s r : State) : (s.withReceiver r).sampleTaken = s.sampleTaken.withReceiver r := by
  cases hdraws : s.answersDI <;> simp [State.sampleTaken, State.withReceiver, hdraws]

theorem enabledTaken_withReceiver (s r : State) : (s.withReceiver r).enabledTaken = s.enabledTaken.withReceiver r := by
  cases hdraws : s.answersEnabled <;> simp [State.enabledTaken, State.withReceiver, hdraws]

theorem enabledAsked_withReceiver (s r : State) : enabledAsked (s.withReceiver r) = (enabledAsked s).withReceiver r := by
  have hparams : (s.withReceiver r).params = s.params := rfl
  rw [enabledAsked, enabledAsked, hparams, enabledTaken_withReceiver]
  split <;> rfl

theorem slotAt_withReceiver (d : Device) (s r : State) : slotAt d (s.withReceiver r) = (slotAt d s).withReceiver r := by
  match d with
  | .axis i =>
    rw [slotAt, axisSlot_eq, axisSlot_eq, enabledAsked_withReceiver, serviceTaken_withReceiver]
    rfl
  | .portA .lo =>
    rw [slotAt, portSlot_lo_eq, portSlot_lo_eq, sampleTaken_withReceiver]
    rfl
  | .portA .hi =>
    rw [slotAt, portSlot_hi_eq, portSlot_hi_eq, sampleTaken_withReceiver]
    rfl

theorem tick_withReceiver (s r : State) : tick (s.withReceiver r) = (tick s).withReceiver r := by
  have hidx : (s.withReceiver r).idx = s.idx := rfl
  rw [tick, tick, hidx, slotAt_withReceiver]
  rfl

/-! ### With no handler to call, receiving reads and writes only them and RESYNC_REEXAMINE -/

theorem ReceiverKept.withReceiver_eq {s t : State} (k : ReceiverKept s t) : t.withReceiver s = t := by
  rw [State.withReceiver, ← k.rxState, ← k.buf, ← k.pos, ← k.rxLen, ← k.rxCause]

theorem completeFrame_of_matches_of_no_handler {s : State} (hs : s.fault = none) (hnone : s.handler = none)
    (h : ChecksumMatches s.buf (totalLength s.rxLen)) : completeFrame s = toSentinel s := by
  rw [completeFrame_of_matches h, dispatch_of_not_request (.inr hnone), andThen_of_none _ hs]

section Silent

variable {s t : State} (hs : s.fault = none) (ht : t.fault = none) (hnone : s.handler = none) (hnone' : t.handler = none)
include hs ht hnone hnone'

theorem completeFrame_withReceiver : completeFrame (t.withReceiver s) = t.withReceiver (completeFrame s) := by
  by_cases hgood : ChecksumMatches s.buf (totalLength s.rxLen)
  · rw [completeFrame_of_matches_of_no_handler hs hnone hgood,
      completeFrame_of_matches_of_no_handler (s := t.withReceiver s) ht hnone' hgood]
    rfl
  · rw [completeFrame_of_not_matches hs hgood, completeFrame_of_not_matches (s := t.withReceiver s) ht hgood]
    rfl

theorem receive_withReceiver (b : Byte) (hshape : receiverShape s = true) (hparams : t.params = s.params) :
    receive b (t.withReceiver s) = t.withReceiver (receive b s) := by
  have hflag : (t.withReceiver s).params.resyncReexamine = s.params.resyncReexamine := congrArg Params.resyncReexamine hparams
  cases hst : s.rxState with
  | sentinel =>
    rw [receive_sentinel b hs hst, receive_sentinel (s := t.withReceiver s) b ht hst]
    split <;> rfl
  | typeByte =>
    rw [receive_typeByte b hs hst, receive_typeByte (s := t.withReceiver s) b ht hst, hflag]
    split
    next => rfl
    next => split <;> rfl
  | lengthByte =>
    rw [receive_lengthByte b hs hst, receive_lengthByte (s := t.withReceiver s) b ht hst, hflag]
    split
    next => rfl
    next => split <;> rfl
  | opCodeByte =>
    rw [receive_opCodeByte b hs hst, receive_opCodeByte (s := t.withReceiver s) b ht hst]
    rfl
  | dataBytes =>
    have hpos := pos_lt_bufferSize hshape (.inr (.inl hst))
    rw [receive_dataBytes b hs hst hpos, receive_dataBytes (s := t.withReceiver s) b ht hst hpos]
    rfl
  | checksumBytes =>
    have hpos := pos_lt_bufferSize hshape (.inr (.inr hst))
    have hstored : checksumByteStored b (t.withReceiver s) = t.withReceiver (checksumByteStored b s) := rfl
    have hcomplete := completeFrame_withReceiver (s := checksumByteStored b s) hs ht hnone hnone'
    rw [receive_checksumBytes b hs hst hpos, receive_checksumBytes (s := t.withReceiver s) b ht hst hpos, hstored, hcomplete]
    exact (apply_ite t.withReceiver _ _ _).symm

end Silent

/-- Settles O14: either way the receiver is that of the byte received and the rest is that of the tick. -/
theorem tickAndReceiveCommute : Obligations.TickAndReceiveCommute := by
  intro b s hinv hs hnone
  obtain ⟨-, hshape, -⟩ := inv_receiver hinv hs
  have k := tick_busFrame s
  have htick : (tick s).fault = none := k.fault.trans hs
  have hreceive : s.withReceiver (receive b s) = receive b s := by
    rw [← receive_withReceiver hs hs hnone hnone b hshape rfl]
    rfl
  have hfault : (receive b s).fault = none := by rw [← hreceive]; exact hs
  refine ⟨(tick s).withReceiver (receive b s), ?tickFirst, ?byteFirst⟩
  case tickFirst =>
    calc runInstrs [.tick, .rxByte b] s
        = runInstrs [.rxByte b] (tick s) := runInstrs_cons_of_next (exec_tick hs) _
      _ = .next (receive b (tick s)) := runInstrs_cons_of_next (exec_rxByte b htick) []
      _ = .next (receive b ((tick s).withReceiver s)) := by rw [k.toReceiverKept.withReceiver_eq]
      _ = .next ((tick s).withReceiver (receive b s)) := by
          rw [receive_withReceiver hs htick hnone (k.handler.trans hnone) b hshape k.params]
  case byteFirst =>
    calc runInstrs [.rxByte b, .tick] s
        = runInstrs [.tick] (receive b s) := runInstrs_cons_of_next (exec_rxByte b hs) _
      _ = .next (tick (receive b s)) := runInstrs_cons_of_next (exec_tick hfault) []
      _ = .next (tick (s.withReceiver (receive b s))) := by rw [hreceive]
      _ = .next ((tick s).withReceiver (receive b s)) := by rw [tick_withReceiver]

end Sys2Proof.Machine
end


section
/-! SUPPORT. The cause code RX_BYTE leaves (60_exceptions.md R271, log 20), state by state: a code is left by a discard and by
nothing else, and a discard moves only the receiver back (R272). -/

namespace Sys2Proof.Machine

theorem exec_rxByte_next {b : Byte} {s t : State} (h : exec (.rxByte b) s = .next t) : t = receive b s :=
  (perform_cases h).2

/-! ### A choice between a step that leaves no code and a discard -/

section Choice

variable {p : Prop} [Decidable p] {accepted discarded : State} {k c : RxCause}

theorem rxCause_ite (ha : accepted.rxCause = none) (hd : discarded.rxCause = some k) :
    (if p then accepted else discarded).rxCause = if p then none else some k := by
  rw [apply_ite State.rxCause, ha, hd]

/-- A code left says which branch was taken. -/
theorem eq_discarded_of_rxCause (ha : accepted.rxCause = none) (hd : discarded.rxCause = some k)
    (hc : (if p then accepted else discarded).rxCause = some c) :
    c = k ∧ (if p then accepted else discarded) = discarded := by
  by_cases hp : p
  · rw [if_pos hp, ha] at hc
    cases hc
  · rw [if_neg hp, hd] at hc
    exact ⟨(Option.some.inj hc).symm, if_neg hp⟩

end Choice

section Codes

variable {s : State} {b : Byte} {c : RxCause}

/-! ### The header states -/

theorem reexamine_discard_rxCause (k : RxCause) (hs : s.fault = none) :
    (reexamine b (s.discard k)).rxCause = some k := by
  rw [reexamine_discard_eq b k hs]
  split <;> rfl

theorem receive_typeByte_eq_reexamine (hs : s.fault = none) (hst : s.rxState = .typeByte) :
    receive b s =
      if b = typeRequest ∨ b = typeResponse then
        { s with buf := s.buf.write 1 b, pos := 2, rxState := .lengthByte, rxCause := none }
      else reexamine b (s.discard .badType) := by
  rw [receive_typeByte b hs hst, reexamine_discard_eq b .badType hs]

theorem receive_lengthByte_eq_reexamine (hs : s.fault = none) (hst : s.rxState = .lengthByte) :
    receive b s =
      if 1 ≤ b.toNat ∧ b.toNat ≤ 27 then
        { s with buf := s.buf.write 2 b, rxLen := b, pos := 3, rxState := .opCodeByte, rxCause := none }
      else reexamine b (s.discard .badLength) := by
  rw [receive_lengthByte b hs hst, reexamine_discard_eq b .badLength hs]

theorem receive_sentinel_rxCause (hs : s.fault = none) (hst : s.rxState = .sentinel) :
    (receive b s).rxCause = if b = sentinelByte then none else some .staySentinel := by
  rw [receive_sentinel b hs hst]
  exact rxCause_ite rfl rfl

theorem receive_typeByte_rxCause (hs : s.fault = none) (hst : s.rxState = .typeByte) :
    (receive b s).rxCause = if b = typeRequest ∨ b = typeResponse then none else some .badType := by
  rw [receive_typeByte_eq_reexamine hs hst]
  exact rxCause_ite rfl (reexamine_discard_rxCause .badType hs)

theorem receive_lengthByte_rxCause (hs : s.fault = none) (hst : s.rxState = .lengthByte) :
    (receive b s).rxCause = if 1 ≤ b.toNat ∧ b.toNat ≤ 27 then none else some .badLength := by
  rw [receive_lengthByte_eq_reexamine hs hst]
  exact rxCause_ite rfl (reexamine_discard_rxCause .badLength hs)

theorem receive_sentinel_of_rxCause (hs : s.fault = none) (hst : s.rxState = .sentinel)
    (hc : (receive b s).rxCause = some c) : c = .staySentinel ∧ receive b s = { s with rxCause := some .staySentinel } := by
  rw [receive_sentinel b hs hst] at hc ⊢
  exact eq_discarded_of_rxCause rfl rfl hc

theorem receive_typeByte_of_rxCause (hs : s.fault = none) (hst : s.rxState = .typeByte)
    (hc : (receive b s).rxCause = some c) : c = .badType ∧ receive b s = reexamine b (s.discard .badType) := by
  rw [receive_typeByte_eq_reexamine hs hst] at hc ⊢
  exact eq_discarded_of_rxCause rfl (reexamine_discard_rxCause .badType hs) hc

theorem receive_lengthByte_of_rxCause (hs : s.fault = none) (hst : s.rxState = .lengthByte)
    (hc : (receive b s).rxCause = some c) : c = .badLength ∧ receive b s = reexamine b (s.discard .badLength) := by
  rw [receive_lengthByte_eq_reexamine hs hst] at hc ⊢
  exact eq_discarded_of_rxCause rfl (reexamine_discard_rxCause .badLength hs) hc

/-! ### The states that store every byte

Without the invariant the position may lie outside the buffer: the store faults there, and leaves no code either. -/

theorem bufWrite_andThen_outside_rxCause {i : Nat} (f : State → State) (hs : s.fault = none) (hi : ¬i < bufferSize) :
    ((s.bufWrite i b).andThen f).rxCause = s.rxCause := by
  rw [bufWrite_outside b hi, raise_of_none _ hs]
  rfl

theorem receive_opCodeByte_rxCause (hs : s.fault = none) (hst : s.rxState = .opCodeByte) : (receive b s).rxCause = none := by
  rw [receive_opCodeByte b hs hst]

theorem receive_dataBytes_rxCause (hs : s.fault = none) (hst : s.rxState = .dataBytes) : (receive b s).rxCause = none := by
  by_cases hpos : s.pos < bufferSize
  · rw [receive_dataBytes b hs hst hpos]
  · rw [receive_of_rxState b hst]
    exact bufWrite_andThen_outside_rxCause (s := { s with rxCause := none }) _ hs hpos

/-- DISPATCH and the way back to Sentinel touch no cause code (45_receiver.md R240). -/
theorem completeFrame_rxCause_of_matches (h : ChecksumMatches s.buf (totalLength s.rxLen)) :
    (completeFrame s).rxCause = s.rxCause := by
  have hkept := (dispatch_handlerFrame s).rxCause
  rcases andThen_cases (dispatch s) toSentinel with e | ⟨e, -⟩
  · rw [completeFrame_of_matches h, e, toSentinel_rxCause, hkept]
  · rw [completeFrame_of_matches h, e, hkept]

/-- In ChecksumBytes the only code is that of the comparison that fails at the last byte (R236). -/
theorem receive_checksumBytes_of_rxCause (hs : s.fault = none) (hst : s.rxState = .checksumBytes)
    (hc : (receive b s).rxCause = some c) :
    c = .badChecksum ∧ receive b s = (checksumByteStored b s).discard .badChecksum := by
  by_cases hpos : s.pos < bufferSize
  · rw [receive_checksumBytes b hs hst hpos] at hc ⊢
    split at hc
    next hlast =>
      rw [if_pos hlast]
      by_cases hgood : ChecksumMatches (checksumByteStored b s).buf (totalLength (checksumByteStored b s).rxLen)
      · rw [completeFrame_rxCause_of_matches hgood] at hc
        cases hc
      · have hdiscard := completeFrame_of_not_matches (s := checksumByteStored b s) hs hgood
        rw [hdiscard] at hc
        exact ⟨(Option.some.inj hc).symm, hdiscard⟩
    next => cases hc
  · have hnone : (receive b s).rxCause = none := by
      rw [receive_of_rxState b hst]
      exact bufWrite_andThen_outside_rxCause (s := { s with rxCause := none }) _ hs hpos
    rw [hnone] at hc
    cases hc

end Codes

/-- Settles O44: the code state by state, and the discard each code stands for. -/
theorem framingDiscardsAreSilent : Obligations.FramingDiscardsAreSilent := by
  refine ⟨fun b s t hne h => ?code, fun b s t c h hc => ?silence⟩
  case code =>
    have hs := fault_none_of_exec_next h
    rw [exec_rxByte_next h]
    split
    next hst => exact receive_sentinel_rxCause hs hst
    next hst => exact receive_typeByte_rxCause hs hst
    next hst => exact receive_lengthByte_rxCause hs hst
    next hst => exact receive_opCodeByte_rxCause hs hst
    next hst => exact receive_dataBytes_rxCause hs hst
    next hst => exact absurd hst hne
  case silence =>
    have hs := fault_none_of_exec_next h
    obtain rfl := exec_rxByte_next h
    split
    next hst =>
      obtain ⟨rfl, e⟩ := receive_sentinel_of_rxCause hs hst hc
      exact ⟨by simp [hst], e⟩
    next hst =>
      obtain ⟨rfl, e⟩ := receive_typeByte_of_rxCause hs hst hc
      exact ⟨by simp [hst], e.trans (reexamine_discard_eq b .badType hs)⟩
    next hst =>
      obtain ⟨rfl, e⟩ := receive_lengthByte_of_rxCause hs hst hc
      exact ⟨by simp [hst], e.trans (reexamine_discard_eq b .badLength hs)⟩
    next hst =>
      rw [receive_opCodeByte_rxCause hs hst] at hc
      cases hc
    next hst =>
      rw [receive_dataBytes_rxCause hs hst] at hc
      cases hc
    next hst =>
      obtain ⟨rfl, e⟩ := receive_checksumBytes_of_rxCause hs hst hc
      exact ⟨by simp [hst], e⟩

end Sys2Proof.Machine
end


section
/-! SUPPORT. Progress: every operation has a next state while no fault mark is set (70_reset_and_hazards.md R319, 10_state.md R35). -/

namespace Sys2Proof.Machine

/-- An instruction is performed behind a look at the fault mark, or is the transition of a receiver state (log 16). -/
theorem exec_cases (i : Instr) (s : State) :
    (transitionKey i = none ∧ ∃ f, exec i s = perform s f) ∨
    (∃ key b, transitionKey i = some key ∧ exec i s = rxTransition key b s) := by
  unfold exec
  cases i with
  | rxSentinel b | rxTypeByte b | rxLengthByte b | rxOpCodeByte b | rxDataBytes b | rxChecksumBytes b =>
    exact .inr ⟨_, b, rfl, rfl⟩
  | _ => exact .inl ⟨rfl, _, rfl⟩

/-- Settles O7: with no mark what is performed has its effect, and a transition in its own state is RX_BYTE. -/
theorem everyOperationHasAStep : Obligations.EveryOperationHasAStep := by
  intro i s hs hkey
  rcases exec_cases i s with ⟨-, f, he⟩ | ⟨key, b, htransition, he⟩
  · exact ⟨f s, he.trans (perform_next f hs)⟩
  · exact ⟨receive b s, he.trans (rxTransition_of_rxState b hs (hkey key htransition))⟩

end Sys2Proof.Machine
end


section
/-! SUPPORT. Flushing the receiver (70_reset_and_hazards.md R317): with no 0xAA to start a frame, each byte ends the frame under way or
is stored, and a frame is no longer than the buffer. -/

namespace Sys2Proof.Machine

/-! ### A run of RX_BYTE and the bytes received -/

theorem runInstrs_rxs_next {l : List Byte} {s t : State} (hs : s.fault = none) (h : runInstrs (rxs l) s = .next t) :
    t = receiveAll l s := by
  induction l generalizing s with
  | nil => cases h; rfl
  | cons b rest ih =>
    have hrest : runInstrs (rxs rest) (receive b s) = .next t :=
      (runInstrs_cons_of_next (exec_rxByte b hs) (rxs rest)).symm.trans h
    cases hb : (receive b s).fault with
    | none => exact (ih hb hrest).trans (receiveAll_cons_of_eq rfl hb rest).symm
    | some r =>
      cases rest with
      | nil => cases hrest; exact (receiveAll_singleton b s).symm
      | cons b' rest => rw [rxs, List.map_cons, runInstrs, exec_fault hb] at hrest; cases hrest

theorem runInstrs_rxs_of_no_fault {l : List Byte} {s : State} (hs : s.fault = none) (hl : (receiveAll l s).fault = none) :
    runInstrs (rxs l) s = .next (receiveAll l s) := by
  have h := runInstrs_rxs_append hs hl []
  rwa [List.append_nil] at h

/-! ### With no handler no fault is raised -/

/-- With no handler receiving writes the receiver's fields only. -/
theorem receive_eq_withReceiver {s : State} (b : Byte) (hs : s.fault = none) (hnone : s.handler = none)
    (hshape : receiverShape s = true) : receive b s = s.withReceiver (receive b s) :=
  receive_withReceiver hs hs hnone hnone b hshape rfl

theorem receiveAll_fault_of_no_handler (l : List Byte) {s : State} (hinv : ReceiverInv s) (hs : s.fault = none)
    (hnone : s.handler = none) : (receiveAll l s).fault = none := by
  induction l generalizing s with
  | nil => exact hs
  | cons b rest ih =>
    have hkept := receive_eq_withReceiver b hs hnone (hinv.2 hs).1
    have hb : (receive b s).fault = none := by rw [hkept]; exact hs
    have hnone' : (receive b s).handler = none := by rw [hkept]; exact hnone
    rw [receiveAll_cons_of_eq rfl hb]
    exact ih (receive_inv b hs hinv) hb hnone'

/-! ### Bytes other than 0xAA -/

theorem pos_lt_bufferSize_of_shape {s : State} (hshape : receiverShape s = true) : s.pos < bufferSize := by
  cases hst : s.rxState with
  | sentinel => rw [(receiverShape_sentinel hst).mp hshape]; decide
  | typeByte => rw [(receiverShape_typeByte hst).mp hshape]; decide
  | lengthByte => rw [(receiverShape_lengthByte hst).mp hshape]; decide
  | opCodeByte | dataBytes | checksumBytes => exact pos_lt_bufferSize hshape (by simp [hst])

/-- Outside Sentinel the sentinel byte is stored. -/
theorem pos_pos_of_shape {s : State} (hshape : receiverShape s = true) (hst : s.rxState ≠ .sentinel) : 0 < s.pos := by
  cases hst' : s.rxState with
  | sentinel => exact absurd hst' hst
  | typeByte => rw [(receiverShape_typeByte hst').mp hshape]; decide
  | lengthByte => rw [(receiverShape_lengthByte hst').mp hshape]; decide
  | opCodeByte | dataBytes | checksumBytes =>
    obtain ⟨hpos, -⟩ := pos_bounds_of_body hshape (by simp [hst'])
    omega

/-- A byte that is no sentinel leaves the receiver in Sentinel, or is stored as the next of the frame under way. -/
theorem receive_returns_or_stores {s : State} {b : Byte} (hs : s.fault = none) (hshape : receiverShape s = true)
    (hb : b ≠ sentinelByte) (hfault : (receive b s).fault = none) :
    (receive b s).rxState = .sentinel ∨ (s.rxState ≠ .sentinel ∧ (receive b s).pos = s.pos + 1) := by
  have hno : ¬(s.params.resyncReexamine = true ∧ b = sentinelByte) := fun h => hb h.2
  cases hst : s.rxState with
  | sentinel => rw [receive_sentinel b hs hst, if_neg hb]; exact .inl hst
  | typeByte =>
    rw [receive_typeByte b hs hst, if_neg hno, (receiverShape_typeByte hst).mp hshape]
    split <;> simp
  | lengthByte =>
    rw [receive_lengthByte b hs hst, if_neg hno, (receiverShape_lengthByte hst).mp hshape]
    split <;> simp
  | opCodeByte =>
    obtain ⟨hpos, -⟩ := (receiverShape_opCodeByte hst).mp hshape
    rw [receive_opCodeByte b hs hst, hpos]
    simp
  | dataBytes =>
    rw [receive_dataBytes b hs hst (pos_lt_bufferSize_of_shape hshape)]
    simp
  | checksumBytes =>
    rw [receive_checksumBytes b hs hst (pos_lt_bufferSize_of_shape hshape)] at hfault ⊢
    split at hfault
    next hlast =>
      rw [if_pos hlast]
      exact .inl ((completeFrame_sentinel_or_fault _).resolve_right (not_not_intro hfault))
    next hmore =>
      rw [if_neg hmore]
      exact .inr ⟨by simp, rfl⟩

/-- As many bytes as the buffer has room for end the frame under way, and none of them starts another. -/
theorem receiveAll_flush (l : List Byte) {s : State} (hinv : ReceiverInv s) (hs : s.fault = none)
    (hl : ∀ b ∈ l, b ≠ sentinelByte) (hroom : s.rxState = .sentinel ∨ bufferSize ≤ s.pos + l.length)
    (hfault : (receiveAll l s).fault = none) : (receiveAll l s).rxState = .sentinel := by
  have hshape : receiverShape s = true := (hinv.2 hs).1
  induction l generalizing s with
  | nil =>
    rcases hroom with hst | hfull
    · exact hst
    · exact absurd (pos_lt_bufferSize_of_shape hshape) (Nat.not_lt.mpr hfull)
  | cons b rest ih =>
    obtain ⟨hb, hrest⟩ := List.forall_mem_cons.mp hl
    have hbyte := receive_fault_of_receiveAll hfault
    have hinv' := receive_inv b hs hinv
    rw [receiveAll_cons_of_eq rfl hbyte] at hfault ⊢
    refine ih hinv' hbyte hrest ?_ hfault (hinv'.2 hbyte).1
    rcases receive_returns_or_stores hs hshape hb hbyte with hback | ⟨hst, hpos⟩
    · exact .inl hback
    · have hfull := hroom.resolve_left hst
      rw [List.length_cons] at hfull
      exact .inr (by omega)

/-! ### Zero bytes -/

/-- 0x00 is neither a type nor a Length: it ends a header. -/
theorem receive_zero_of_header {s : State} (hs : s.fault = none) (hst : s.rxState = .typeByte ∨ s.rxState = .lengthByte) :
    (receive 0 s).rxState = .sentinel := by
  have hno : ¬(s.params.resyncReexamine = true ∧ (0 : Byte) = sentinelByte) := fun h => absurd h.2 (by decide)
  rcases hst with hst | hst
  · rw [receive_typeByte 0 hs hst, if_neg (by decide), if_neg hno]
  · rw [receive_lengthByte 0 hs hst, if_neg (by decide), if_neg hno]

/-- The first zero ends a header; past it at most 29 bytes are left of the longest frame. -/
theorem receiveAll_zeros {l : List Byte} {s : State} (hinv : ReceiverInv s) (hs : s.fault = none) (hl : ∀ b ∈ l, b = 0)
    (hlen : 29 ≤ l.length) (hfault : (receiveAll l s).fault = none) : (receiveAll l s).rxState = .sentinel := by
  have hne : ∀ b ∈ l, b ≠ sentinelByte := fun b hb => by rw [hl b hb]; decide
  have hshape : receiverShape s = true := (hinv.2 hs).1
  have body (hst : s.rxState = .opCodeByte ∨ s.rxState = .dataBytes ∨ s.rxState = .checksumBytes) :
      (receiveAll l s).rxState = .sentinel := by
    obtain ⟨hpos, -⟩ := pos_bounds_of_body hshape hst
    exact receiveAll_flush l hinv hs hne (.inr (by unfold bufferSize; omega)) hfault
  have header (hst : s.rxState = .typeByte ∨ s.rxState = .lengthByte) : (receiveAll l s).rxState = .sentinel := by
    cases l with
    | nil => cases hlen
    | cons b rest =>
      obtain ⟨rfl, -⟩ := List.forall_mem_cons.mp hl
      obtain ⟨-, hrest⟩ := List.forall_mem_cons.mp hne
      have hbyte := receive_fault_of_receiveAll hfault
      rw [receiveAll_cons_of_eq rfl hbyte] at hfault ⊢
      exact receiveAll_flush rest (receive_inv 0 hs hinv) hbyte hrest (.inl (receive_zero_of_header hs hst)) hfault
  cases hst : s.rxState with
  | sentinel => exact receiveAll_flush l hinv hs hne (.inl hst) hfault
  | typeByte => exact header (.inl hst)
  | lengthByte => exact header (.inr hst)
  | opCodeByte => exact body (.inl hst)
  | dataBytes => exact body (.inr (.inl hst))
  | checksumBytes => exact body (.inr (.inr hst))

/-- Settles O54: outside Sentinel 31 bytes fill the buffer; the position follows from the table of 10_state.md R36. -/
theorem flushReturnsToSentinel : Obligations.FlushReturnsToSentinel := by
  intro s bytes hinv hs hbytes
  obtain ⟨-, -, hrx⟩ := (inv_iff s).mp hinv
  refine ⟨fun t hrun ht => ?flushed, fun hnone => ?completes⟩
  case flushed =>
    obtain rfl := runInstrs_rxs_next hs hrun
    have hback : (receiveAll bytes s).rxState = .sentinel := by
      rcases hbytes with ⟨hlen, hne⟩ | ⟨hlen, hzero⟩
      · refine receiveAll_flush bytes hrx hs hne ?_ ht
        by_cases hst : s.rxState = .sentinel
        · exact .inl hst
        · have hstored := pos_pos_of_shape (hrx.2 hs).1 hst
          exact .inr (by unfold bufferSize; omega)
      · exact receiveAll_zeros hrx hs hzero hlen ht
    obtain ⟨-, hend⟩ := receiveAll_inv bytes hs hrx
    obtain ⟨hshape, -⟩ := hend ht
    exact ⟨hback, (receiverShape_sentinel hback).mp hshape⟩
  case completes =>
    have hfault := receiveAll_fault_of_no_handler bytes hrx hs hnone
    exact ⟨_, runInstrs_rxs_of_no_fault hs hfault, hfault⟩

end Sys2Proof.Machine
end

section
/-! SUPPORT. One step by what the next entry of the agenda decodes to (10_state.md R20; log 1), and a named transition outside its
receiver state (45_receiver.md R230; log 16). -/

namespace Sys2Proof.Machine

/-! ### The step -/

section Entry

variable {s : State} {e : Entry} {rest : List Entry}

theorem advance_of_agenda (hagenda : s.agenda = e :: rest) : s.advance = { s with agenda := rest } := by
  rw [State.advance, hagenda, List.tail_cons]

theorem step_of_decoded {i : Instr} (hs : s.fault = none) (hagenda : s.agenda = e :: rest) (hdecode : decode e = .ok i) :
    step s = exec i { s with agenda := rest } := by
  rw [← advance_of_agenda hagenda]
  simp [step, hs, hagenda, hdecode]

theorem step_of_undecodable {d : DecodeError} (hs : s.fault = none) (hagenda : s.agenda = e :: rest)
    (hdecode : decode e = .error d) : step s = .refused (.undecodable d) := by
  simp [step, hs, hagenda, hdecode]

theorem step_of_empty_agenda (hs : s.fault = none) (hagenda : s.agenda = []) : step s = .next s := by
  simp [step, hs, hagenda]

end Entry

/-- Settles O5: the three outcomes of a step that is not stopped by a fault mark. -/
theorem stepRunsTheDecodedInstruction : Obligations.StepRunsTheDecodedInstruction :=
  ⟨fun _ _ _ _ => step_of_decoded, fun _ _ _ _ => step_of_undecodable, fun _ => step_of_empty_agenda⟩

/-! ### A transition in another state -/

theorem rxTransition_of_rxState_ne {s : State} {key : RxState} (b : Byte) (hs : s.fault = none) (hst : s.rxState ≠ key) :
    rxTransition key b s = .refused (.rxStateMismatch key s.rxState) := by
  simp [rxTransition, hs, hst]

/-- Settles O8: an instruction with a key is that key's transition, and its state is not the receiver's. -/
theorem transitionRefusedInAnotherState : Obligations.TransitionRefusedInAnotherState := by
  intro i key s hs hkey hst
  rcases exec_cases i s with ⟨hnone, -⟩ | ⟨key', b, htransition, he⟩
  · cases hnone.symm.trans hkey
  · obtain rfl : key' = key := Option.some.inj (htransition.symm.trans hkey)
    exact he.trans (rxTransition_of_rxState_ne b hs hst)

end Sys2Proof.Machine
end

section
/-! SUPPORT. The operations that ask the environment, called on their own (40_address_bus.md R124, 42_axis_slot.md R160 to R163,
43_port_a.md R170, R171): the draw each takes (log 10) and its whole next state. -/

namespace Sys2Proof.Machine

/-! ### The draws: the next answer given, else a counted free one -/

theorem sampleTaken_of_cons {s : State} {l : InputLines} {rest : List InputLines} (h : s.answersDI = l :: rest) :
    s.sampleTaken = { s with answersDI := rest } := by
  simp [State.sampleTaken, h]

theorem sampleAnswer_of_cons {s : State} {l : InputLines} {rest : List InputLines} (h : s.answersDI = l :: rest) :
    s.sampleAnswer = packLines l := by
  simp [State.sampleAnswer, h]

theorem sampleTaken_of_nil {s : State} (h : s.answersDI = []) : s.sampleTaken = { s with drawCount := s.drawCount + 1 } := by
  simp [State.sampleTaken, h]

theorem enabledTaken_of_cons {s : State} {e : Bool} {rest : List Bool} (h : s.answersEnabled = e :: rest) :
    s.enabledTaken = { s with answersEnabled := rest } := by
  simp [State.enabledTaken, h]

theorem enabledAnswer_of_cons {s : State} {e : Bool} {rest : List Bool} (h : s.answersEnabled = e :: rest) :
    s.enabledAnswer = e := by
  simp [State.enabledAnswer, h]

theorem enabledTaken_of_nil {s : State} (h : s.answersEnabled = []) :
    s.enabledTaken = { s with drawCount := s.drawCount + 1 } := by
  simp [State.enabledTaken, h]

theorem serviceTaken_of_cons {s : State} {p : Bool × Nibble} {rest : List (Bool × Nibble)}
    (h : s.answersService = p :: rest) : s.serviceTaken = { s with answersService := rest } := by
  simp [State.serviceTaken, h]

theorem serviceAnswer_of_cons {s : State} {p : Bool × Nibble} {rest : List (Bool × Nibble)}
    (h : s.answersService = p :: rest) (i : Axis) : s.serviceAnswer i = p := by
  simp [State.serviceAnswer, h]

theorem serviceTaken_of_nil {s : State} (h : s.answersService = []) :
    s.serviceTaken = { s with drawCount := s.drawCount + 1 } := by
  simp [State.serviceTaken, h]

/-! ### The input nibble -/

/-- Line DIi in bit i (30_encoding.md R83). -/
theorem packLines_getLsbD (l : InputLines) :
    (packLines l).getLsbD 0 = l.di0 ∧ (packLines l).getLsbD 1 = l.di1 ∧
    (packLines l).getLsbD 2 = l.di2 ∧ (packLines l).getLsbD 3 = l.di3 := by
  obtain ⟨di0, di1, di2, di3⟩ := l
  revert di0 di1 di2 di3
  decide

/-- The lines that show a nibble. -/
def linesShowing (v : Nibble) : InputLines := ⟨v.getLsbD 0, v.getLsbD 1, v.getLsbD 2, v.getLsbD 3⟩

theorem packLines_linesShowing (v : Nibble) : packLines (linesShowing v) = v := by
  obtain ⟨h0, h1, h2, h3⟩ := packLines_getLsbD (linesShowing v)
  apply BitVec.eq_of_getLsbD_eq
  intro k hk
  match k with
  | 0 => exact h0
  | 1 => exact h1
  | 2 => exact h2
  | 3 => exact h3

theorem exec_readInputNibble {s : State} (hs : s.fault = none) :
    exec .readInputNibble s = .next ((sampleInput s).answer (.nibble s.sampleAnswer)) :=
  perform_next (fun u => (sampleInput u).answer (.nibble u.sampleAnswer)) hs

/-- Settles O18: the sample is recorded and answered, its bits are the lines, and lines can be given for every nibble. -/
theorem readInputNibbleSamplesTheLines : Obligations.ReadInputNibbleSamplesTheLines := by
  refine ⟨fun s hs => ?state, fun s l rest h => ⟨sampleTaken_of_cons h, ?bits⟩, fun _ => sampleTaken_of_nil,
    fun v => ⟨linesShowing v, fun s => (sampleAnswer_of_cons rfl).trans (packLines_linesShowing v)⟩⟩
  case state => rw [exec_readInputNibble hs, sampleInput_eq, State.answer]
  case bits =>
    rw [sampleAnswer_of_cons h]
    exact packLines_getLsbD l

/-! ### The port services -/

/-- Settles O22: both services are performed, and what they drive is the low or the high nibble of `portOut`. -/
theorem portServicesSampleThenDrive : Obligations.PortServicesSampleThenDrive := by
  refine fun s hs => ⟨?lo, ?hi⟩
  case lo =>
    have hexec : exec .portaServiceLo s = .next (servicePortLo s) := perform_next _ hs
    rw [hexec, servicePortLo_eq, lowNibble_zextNibble, List.append_assoc]
    rfl
  case hi =>
    have hexec : exec .portaServiceHi s = .next (servicePortHi s) := perform_next _ hs
    rw [hexec, servicePortHi_eq, lowNibble_highNibbleShifted, List.append_assoc]
    rfl

/-! ### The re-enable -/

theorem reenableCalls_eq (i : Axis) (s : State) :
    reenableCalls i s = { s with trace := s.trace ++ [.axDisable i, .axEnable i] } := by
  simp [reenableCalls, State.emit]

theorem exec_axisReenable (i : Axis) {s : State} (hs : s.fault = none) : exec (.axisReenable i) s = .next (reenable i s) :=
  perform_next _ hs

/-- Settles O20: AXIS_REENABLE is performed, and its two calls depend on the flag only under REENABLE_GATED. -/
theorem axisReenableDisablesThenEnables : Obligations.AxisReenableDisablesThenEnables := by
  refine ⟨fun i s hs hgate => ?free, fun i s hs hgate => ?gated,
    fun s e rest h => ⟨enabledAnswer_of_cons h, enabledTaken_of_cons h⟩, fun _ => enabledTaken_of_nil⟩
  case free =>
    have hcalls : reenable i s = reenableCalls i s := by simp [reenable, hgate]
    rw [exec_axisReenable i hs, hcalls, reenableCalls_eq]
  case gated =>
    have hcalls : reenable i s = if s.enabledAnswer = true then reenableCalls i s.enabledTaken else s.enabledTaken := by
      simp [reenable, hgate]
    rw [exec_axisReenable i hs, hcalls, reenableCalls_eq, enabledTaken_trace]

/-! ### The moving flags -/

/-- A result moved to bit i is that bit and no other. -/
theorem shiftedResult_getLsbD (r : Bool) (i : Axis) {j : Nat} (hj : j < 8) :
    (BitVec.setWidth 8 (BitVec.ofBool r) <<< i.val).getLsbD j = if j = i.val then r else false := by
  rcases Nat.lt_trichotomy j i.val with hlt | rfl | hgt
  · simp [hlt, hlt.ne]
  · simp [hj]
  · simp [hgt.ne', BitVec.getLsbD_of_ge (BitVec.ofBool r) (j - i.val) (Nat.sub_pos_of_lt hgt)]

theorem axisMask_getLsbD (i : Axis) {j : Nat} (hj : j < 8) :
    (axisMask i).getLsbD j = if j = i.val then true else false :=
  shiftedResult_getLsbD true i hj

/-- The mask takes bit i out and the shifted result puts it back; every other bit passes (R161). -/
theorem setMoving_getLsbD (m : Byte) (i : Axis) (r : Bool) {j : Nat} (hj : j < 8) :
    (setMoving m i r).getLsbD j = if j = i.val then r else m.getLsbD j := by
  rw [setMoving, BitVec.getLsbD_or, BitVec.getLsbD_and, BitVec.getLsbD_not, axisMask_getLsbD i hj,
    shiftedResult_getLsbD r i hj]
  by_cases h : j = i.val
  · simp [h]
  · simp [h, hj]

theorem exec_serviceAxis (i : Axis) {s : State} (hs : s.fault = none) : exec (.serviceAxis i) s = .next (service i s) :=
  perform_next _ hs

theorem exec_readMotorState {s : State} (hs : s.fault = none) :
    exec .readMotorState s = .next (s.answer (.byte s.motorState)) :=
  perform_next (fun u => u.answer (.byte u.motorState)) hs

/-- Settles O21: the byte SERVICE_AXIS leaves is `setMoving` of the one before, known bit by bit. -/
theorem serviceAxisRecordsItsResult : Obligations.ServiceAxisRecordsItsResult := by
  refine ⟨fun i s hs => ⟨setMoving s.motorState i (s.serviceAnswer i).1, ?state, fun j hj => setMoving_getLsbD _ i _ hj⟩,
    fun i s r v rest h => ⟨serviceAnswer_of_cons h i, serviceTaken_of_cons h⟩, fun _ => serviceTaken_of_nil, fun _ => exec_readMotorState⟩
  case state => rw [exec_serviceAxis i hs, service_eq]

end Sys2Proof.Machine
end

section
/-! SUPPORT. The rows SLOT.<device> (20_memory.md R61; log 17): each is the slot of the device at its bus address. -/

namespace Sys2Proof.Machine

theorem exec_axisSlotRow {p : Instr × Axis} (hp : p ∈ axisSlotRows) (s : State) :
    exec p.1 s = perform s (slotAt (.axis p.2)) := by
  simp only [axisSlotRows, List.mem_cons, List.not_mem_nil, or_false] at hp
  rcases hp with rfl | rfl | rfl | rfl | rfl | rfl <;> rfl

theorem exec_portSlotRow {p : Instr × PortNibble} (hp : p ∈ portSlotRows) (s : State) :
    exec p.1 s = perform s (slotAt (.portA p.2)) := by
  simp only [portSlotRows, List.mem_cons, List.not_mem_nil, or_false] at hp
  rcases hp with rfl | rfl <;> rfl

/-- Settles O29: a row is the slot of its device, whose address the slot leaves on the lines. -/
theorem slotRowsRunTheirSlot : Obligations.SlotRowsRunTheirSlot := by
  refine fun s hs => ⟨fun p hp => ?axis, fun p hp => ?port⟩
  case axis =>
    exact ⟨slotAt (.axis p.2) s, (exec_axisSlotRow hp s).trans (perform_next _ hs), perform_next _ hs,
      slotAt_a (.axis p.2) s, slotAt_idx (.axis p.2) s⟩
  case port =>
    exact ⟨slotAt (.portA p.2) s, (exec_portSlotRow hp s).trans (perform_next _ hs), perform_next _ hs,
      slotAt_a (.portA p.2) s, slotAt_idx (.portA p.2) s⟩

end Sys2Proof.Machine
end
